-- ==== Sys2Proof/Word.lean ====
section
/-! DEFINITION. The bit vectors the spec names, each at its fixed width (00_scope R8, R12). -/

namespace Sys2Proof

/-- The opcode: "an unsigned 16-bit value, the unit of input" (10_state R21). Bit 0 is the least significant (R12). -/
abbrev Opcode := BitVec 16

/-- One hexadecimal digit of an opcode (00_scope R16). -/
abbrev Nibble := BitVec 4

/-- A register index, 0 to 15 (00_scope R8). -/
abbrev RegIndex := BitVec 4

/-- A byte immediate, 0 to 255 (00_scope R8); also one of the two bytes a caller assembles (20_memory R42). -/
abbrev Byte := BitVec 8

/-- A 12-bit address, 0 to 0xFFF (00_scope R8). -/
abbrev Address := BitVec 12

end Sys2Proof
end

