-- ==== Sys2Proof/Machine/Fields.lean ====
section
/-! DEFINITION. The bitfield extractors (30_encoding R53): six fields of an opcode, unsigned, always present. -/

namespace Sys2Proof

/-- `g = o[15:12]`, the primary group. -/
def fieldG (o : Opcode) : Nibble := o.extractLsb' 12 4

/-- `x = o[11:8]`, the first register index. -/
def fieldX (o : Opcode) : RegIndex := o.extractLsb' 8 4

/-- `y = o[7:4]`, the second register index. -/
def fieldY (o : Opcode) : RegIndex := o.extractLsb' 4 4

/-- `n = o[3:0]`, the low nibble: selector or sprite height. -/
def fieldN (o : Opcode) : Nibble := o.extractLsb' 0 4

/-- `kk = o[7:0]`, the low byte: immediate or selector. -/
def fieldKk (o : Opcode) : Byte := o.extractLsb' 0 8

/-- `nnn = o[11:0]`, the address. -/
def fieldNnn (o : Opcode) : Address := o.extractLsb' 0 12

end Sys2Proof
end

