-- ==== Sys2Proof/Machine/RawRendering.lean ====
section
/-! DEFINITION. The raw textual form of an opcode and its character codes (48_raw_rendering R165 to R168; 10_state R25, R32). -/

namespace Sys2Proof

/-- The raw textual form: exactly four characters, `c3` the most significant digit (R165, R182). -/
structure Raw where
  c3 : Char
  c2 : Char
  c1 : Char
  c0 : Char
  deriving DecidableEq, Repr

/-- `hexdigit(d)` of R166: `0` to `9`, then the upper-case letters `A` to `F`. -/
def hexDigit (d : Nibble) : Char :=
  match d with
  | 0x0#4 => '0'
  | 0x1#4 => '1'
  | 0x2#4 => '2'
  | 0x3#4 => '3'
  | 0x4#4 => '4'
  | 0x5#4 => '5'
  | 0x6#4 => '6'
  | 0x7#4 => '7'
  | 0x8#4 => '8'
  | 0x9#4 => '9'
  | 0xA#4 => 'A'
  | 0xB#4 => 'B'
  | 0xC#4 => 'C'
  | 0xD#4 => 'D'
  | 0xE#4 => 'E'
  | _ => 'F'

/-- `hex4(o)` of R165. -/
def hex4 (o : Opcode) : Raw :=
  { c3 := hexDigit (fieldG o), c2 := hexDigit (fieldX o), c1 := hexDigit (fieldY o), c0 := hexDigit (fieldN o) }

/-- `code(d)` of R166: `0x30 + d` for `d <= 9`, `0x37 + d` above. -/
def hexCode (d : Nibble) : Byte :=
  if d ≤ 9#4 then 0x30#8 + d.setWidth 8 else 0x37#8 + d.setWidth 8

/-- The rendering path to the port: `raw_o = {code(o[15:12]), code(o[11:8]), code(o[7:4]), code(o[3:0])}` (R166, R32).
It reads the opcode alone and does not depend on the dispatch (R167). -/
def rawPort (o : Opcode) : BitVec 32 :=
  hexCode (fieldG o) ++ hexCode (fieldX o) ++ hexCode (fieldY o) ++ hexCode (fieldN o)

/-- The 8-bit code of a character of `raw` on the circuit: its ASCII code (R166, decision D6). -/
def charCode (c : Char) : Byte := BitVec.ofNat 8 c.toNat

/-- The four characters of `raw` as `raw_o` carries them, first character in bits 31 to 24 (R32). -/
def Raw.toPort (r : Raw) : BitVec 32 :=
  charCode r.c3 ++ charCode r.c2 ++ charCode r.c1 ++ charCode r.c0

/-- The character a code byte of `raw_o` stands for (inverse of `charCode` on the sixteen codes of R166). -/
def charOfCode (b : Byte) : Char := Char.ofNat b.toNat

/-- `raw` read back from `raw_o` (R33: "`raw_o` gives `raw`"). -/
def rawOfPort (p : BitVec 32) : Raw :=
  { c3 := charOfCode (p.extractLsb' 24 8), c2 := charOfCode (p.extractLsb' 16 8),
    c1 := charOfCode (p.extractLsb' 8 8), c0 := charOfCode (p.extractLsb' 0 8) }

/-- A character read as an upper-case hexadecimal digit (R168 (a)); nothing for any other character (R182). -/
def unhexDigit (c : Char) : Option Nibble :=
  match c with
  | '0' => some 0x0#4
  | '1' => some 0x1#4
  | '2' => some 0x2#4
  | '3' => some 0x3#4
  | '4' => some 0x4#4
  | '5' => some 0x5#4
  | '6' => some 0x6#4
  | '7' => some 0x7#4
  | '8' => some 0x8#4
  | '9' => some 0x9#4
  | 'A' => some 0xA#4
  | 'B' => some 0xB#4
  | 'C' => some 0xC#4
  | 'D' => some 0xD#4
  | 'E' => some 0xE#4
  | 'F' => some 0xF#4
  | _ => none

/-- The four characters of `raw` read back as hexadecimal digits (R168 (a)). -/
def unhex4 (r : Raw) : Option Opcode :=
  match unhexDigit r.c3, unhexDigit r.c2, unhexDigit r.c1, unhexDigit r.c0 with
  | some g, some x, some y, some n => some (g ++ x ++ y ++ n)
  | _, _, _, _ => none

/-- A byte of `raw_o` is one of the sixteen codes of R166: `0x30` to `0x39` or `0x41` to `0x46` (R182). -/
def isHexCode (b : Byte) : Bool :=
  (decide (0x30#8 ≤ b) && decide (b ≤ 0x39#8)) || (decide (0x41#8 ≤ b) && decide (b ≤ 0x46#8))

/-- Each of the four bytes of `raw_o` is a code of R166 (R182). -/
def rawPortIsHex (p : BitVec 32) : Bool :=
  isHexCode (p.extractLsb' 24 8) && isHexCode (p.extractLsb' 16 8)
    && isHexCode (p.extractLsb' 8 8) && isHexCode (p.extractLsb' 0 8)

end Sys2Proof
end

