-- ==== Sys2Proof/Config.lean ====
section
/-! DEFINITION. What is fixed when the block is built: its one parameter and its one named constant. -/

namespace Sys2Proof

/-- The build-time parameters of the block; there is one and no other (00_scope R10, R11). -/
structure Config where
  /-- `SHIFT_RETAIN_Y`: whether the second register field of `8x?6` and `8x?E` is kept (00_scope R10; 44_group_8 R129). -/
  shiftRetainY : Bool
  deriving DecidableEq, Repr

/-- The block at the parameter's default, "the value the source describes" (00_scope R10). -/
def Config.standard : Config := { shiftRetainY := false }

/-- `SYS_MIN_ADDR`, "the program-load boundary": a constant, not a parameter (00_scope R9). -/
def sysMinAddr : Address := 0x200#12

end Sys2Proof
end

