-- ==== Sys2Proof/Syntax.lean ====
section
/-! DEFINITION. The 35 instructions the block recognises (30_encoding R62), in the order of their ids. -/

namespace Sys2Proof

/-- One constructor per instruction of 30_encoding R62, named `<variant><Tag>` after the pair (variant, tag),
which is the unique name (10_state R24). The operands are every opcode bit the pattern leaves open, so the two
shifts carry the `y` nibble that is read and not kept (44_group_8 R127, R130). `addressArgSys` stands for the
table's three rows of `AddressArg.SYS`, which are one instruction (40_group_0 R81). -/
inductive Instr where
  /-- `NoArg.CLS`, `00E0` (R82). -/
  | noArgCls
  /-- `NoArg.RET`, `00EE` (R83). -/
  | noArgRet
  /-- `AddressArg.SYS`, `0nnn` with `nnn >= 0x200` (R81). -/
  | addressArgSys (address : Address)
  /-- `AddressArg.JP`, `1nnn` (R91). -/
  | addressArgJp (address : Address)
  /-- `AddressArg.CALL`, `2nnn` (R92). -/
  | addressArgCall (address : Address)
  /-- `RegisterByte.SE`, `3xkk` (R101). -/
  | registerByteSe (register : RegIndex) (byte : Byte)
  /-- `RegisterByte.SNE`, `4xkk` (R102). -/
  | registerByteSne (register : RegIndex) (byte : Byte)
  /-- `TwoRegister.SE`, `5xy0` (R111). -/
  | twoRegisterSe (vx vy : RegIndex)
  /-- `RegisterByte.LD`, `6xkk` (R103). -/
  | registerByteLd (register : RegIndex) (byte : Byte)
  /-- `RegisterByte.ADD`, `7xkk` (R104). -/
  | registerByteAdd (register : RegIndex) (byte : Byte)
  /-- `TwoRegister.LD`, `8xy0` (R121). -/
  | twoRegisterLd (vx vy : RegIndex)
  /-- `TwoRegister.OR`, `8xy1` (R122). -/
  | twoRegisterOr (vx vy : RegIndex)
  /-- `TwoRegister.AND`, `8xy2` (R123). -/
  | twoRegisterAnd (vx vy : RegIndex)
  /-- `TwoRegister.XOR`, `8xy3` (R124). -/
  | twoRegisterXor (vx vy : RegIndex)
  /-- `TwoRegister.ADD`, `8xy4` (R125). -/
  | twoRegisterAdd (vx vy : RegIndex)
  /-- `TwoRegister.SUB`, `8xy5` (R126). -/
  | twoRegisterSub (vx vy : RegIndex)
  /-- `SingleRegister.SHR`, `8x?6`; `y` is the nibble read and not kept (R127). -/
  | singleRegisterShr (register y : RegIndex)
  /-- `TwoRegister.SUBN`, `8xy7` (R128). -/
  | twoRegisterSubn (vx vy : RegIndex)
  /-- `SingleRegister.SHL`, `8x?E`; `y` is the nibble read and not kept (R130). -/
  | singleRegisterShl (register y : RegIndex)
  /-- `TwoRegister.SNE`, `9xy0` (R112). -/
  | twoRegisterSne (vx vy : RegIndex)
  /-- `AddressArg.LD`, `Annn` (R93). -/
  | addressArgLd (address : Address)
  /-- `AddressArg.JPADD`, `Bnnn` (R94). -/
  | addressArgJpadd (address : Address)
  /-- `RegisterByte.RND`, `Cxkk` (R105). -/
  | registerByteRnd (register : RegIndex) (byte : Byte)
  /-- `Draw`, `Dxyn` (R136). -/
  | draw (vx vy : RegIndex) (n : Nibble)
  /-- `SingleRegister.SKP`, `Ex9E` (R141). -/
  | singleRegisterSkp (register : RegIndex)
  /-- `SingleRegister.SKNP`, `ExA1` (R142). -/
  | singleRegisterSknp (register : RegIndex)
  /-- `SingleRegister.DT2R`, `Fx07` (R151). -/
  | singleRegisterDt2r (register : RegIndex)
  /-- `SingleRegister.LDK`, `Fx0A` (R152). -/
  | singleRegisterLdk (register : RegIndex)
  /-- `SingleRegister.R2DT`, `Fx15` (R153). -/
  | singleRegisterR2dt (register : RegIndex)
  /-- `SingleRegister.R2ST`, `Fx18` (R154). -/
  | singleRegisterR2st (register : RegIndex)
  /-- `SingleRegister.ADD`, `Fx1E` (R155). -/
  | singleRegisterAdd (register : RegIndex)
  /-- `SingleRegister.LDF`, `Fx29` (R156). -/
  | singleRegisterLdf (register : RegIndex)
  /-- `SingleRegister.BCD`, `Fx33` (R157). -/
  | singleRegisterBcd (register : RegIndex)
  /-- `SingleRegister.RMEM`, `Fx55` (R158). -/
  | singleRegisterRmem (register : RegIndex)
  /-- `SingleRegister.MEMR`, `Fx65` (R159). -/
  | singleRegisterMemr (register : RegIndex)
  deriving DecidableEq, Repr

end Sys2Proof
end

