-- ==== Sys2Proof/WellFormed.lean ====
section
/-! DEFINITION. Which terms of `Instr` are instructions. The operand widths settle every check of the spec but one
(49_instruction_validator R180, R181): the address of `AddressArg.SYS` is at least `SYS_MIN_ADDR` (10_state R26). -/

namespace Sys2Proof

/-- The bounds check on an instruction: `0x200 <= address` for `AddressArg.SYS` (R81, R181), nothing elsewhere (R180). -/
def Instr.wellFormed : Instr → Bool
  | .noArgCls => true
  | .noArgRet => true
  | .addressArgSys address => decide (sysMinAddr ≤ address)
  | .addressArgJp _ => true
  | .addressArgCall _ => true
  | .registerByteSe _ _ => true
  | .registerByteSne _ _ => true
  | .twoRegisterSe _ _ => true
  | .registerByteLd _ _ => true
  | .registerByteAdd _ _ => true
  | .twoRegisterLd _ _ => true
  | .twoRegisterOr _ _ => true
  | .twoRegisterAnd _ _ => true
  | .twoRegisterXor _ _ => true
  | .twoRegisterAdd _ _ => true
  | .twoRegisterSub _ _ => true
  | .singleRegisterShr _ _ => true
  | .twoRegisterSubn _ _ => true
  | .singleRegisterShl _ _ => true
  | .twoRegisterSne _ _ => true
  | .addressArgLd _ => true
  | .addressArgJpadd _ => true
  | .registerByteRnd _ _ => true
  | .draw _ _ _ => true
  | .singleRegisterSkp _ => true
  | .singleRegisterSknp _ => true
  | .singleRegisterDt2r _ => true
  | .singleRegisterLdk _ => true
  | .singleRegisterR2dt _ => true
  | .singleRegisterR2st _ => true
  | .singleRegisterAdd _ => true
  | .singleRegisterLdf _ => true
  | .singleRegisterBcd _ => true
  | .singleRegisterRmem _ => true
  | .singleRegisterMemr _ => true

end Sys2Proof
end

