-- ==== Sys2Proof/Decode.lean ====
section
/-! DEFINITION. The decode function (30_encoding R54): primary dispatch on `g`, the six secondary selectors, and the
encoder written from the patterns of 30_encoding R62. Total: every opcode gives an instruction or the decode failure. -/

namespace Sys2Proof

/-- `DecodeError`: one kind, carrying the raw textual form of the rejected opcode and nothing else (10_state R27; 60 R190). -/
structure DecodeFailure where
  raw : Raw
  deriving DecidableEq, Repr

/-- `raise DecodeFailure(raw)` (00_scope R14). -/
def raiseDecodeFailure (o : Opcode) : Except DecodeFailure Instr :=
  .error { raw := hex4 o }

/-- Group 0: the threshold first, then the two exact matches (R56; 40_group_0 R80). -/
def selectGroup0 (o : Opcode) : Except DecodeFailure Instr :=
  if sysMinAddr ≤ fieldNnn o then .ok (.addressArgSys (fieldNnn o))
  else if fieldNnn o = 0x0E0#12 then .ok .noArgCls
  else if fieldNnn o = 0x0EE#12 then .ok .noArgRet
  else raiseDecodeFailure o

/-- Group 5: the low nibble must be 0 (R57; 43 R110). -/
def selectGroup5 (o : Opcode) : Except DecodeFailure Instr :=
  if fieldN o = 0x0#4 then .ok (.twoRegisterSe (fieldX o) (fieldY o)) else raiseDecodeFailure o

/-- Group 8: dispatch on the low nibble alone (R58; 44 R120). -/
def selectGroup8 (o : Opcode) : Except DecodeFailure Instr :=
  match fieldN o with
  | 0x0#4 => .ok (.twoRegisterLd (fieldX o) (fieldY o))
  | 0x1#4 => .ok (.twoRegisterOr (fieldX o) (fieldY o))
  | 0x2#4 => .ok (.twoRegisterAnd (fieldX o) (fieldY o))
  | 0x3#4 => .ok (.twoRegisterXor (fieldX o) (fieldY o))
  | 0x4#4 => .ok (.twoRegisterAdd (fieldX o) (fieldY o))
  | 0x5#4 => .ok (.twoRegisterSub (fieldX o) (fieldY o))
  | 0x6#4 => .ok (.singleRegisterShr (fieldX o) (fieldY o))
  | 0x7#4 => .ok (.twoRegisterSubn (fieldX o) (fieldY o))
  | 0xE#4 => .ok (.singleRegisterShl (fieldX o) (fieldY o))
  | _ => raiseDecodeFailure o

/-- Group 9: the low nibble must be 0 (R59; 43 R110). -/
def selectGroup9 (o : Opcode) : Except DecodeFailure Instr :=
  if fieldN o = 0x0#4 then .ok (.twoRegisterSne (fieldX o) (fieldY o)) else raiseDecodeFailure o

/-- Group E: dispatch on the low byte, all eight bits compared (R60; 46 R140). -/
def selectGroupE (o : Opcode) : Except DecodeFailure Instr :=
  match fieldKk o with
  | 0x9E#8 => .ok (.singleRegisterSkp (fieldX o))
  | 0xA1#8 => .ok (.singleRegisterSknp (fieldX o))
  | _ => raiseDecodeFailure o

/-- Group F: the fixed table of nine low bytes (R61; 47 R150). -/
def selectGroupF (o : Opcode) : Except DecodeFailure Instr :=
  match fieldKk o with
  | 0x07#8 => .ok (.singleRegisterDt2r (fieldX o))
  | 0x0A#8 => .ok (.singleRegisterLdk (fieldX o))
  | 0x15#8 => .ok (.singleRegisterR2dt (fieldX o))
  | 0x18#8 => .ok (.singleRegisterR2st (fieldX o))
  | 0x1E#8 => .ok (.singleRegisterAdd (fieldX o))
  | 0x29#8 => .ok (.singleRegisterLdf (fieldX o))
  | 0x33#8 => .ok (.singleRegisterBcd (fieldX o))
  | 0x55#8 => .ok (.singleRegisterRmem (fieldX o))
  | 0x65#8 => .ok (.singleRegisterMemr (fieldX o))
  | _ => raiseDecodeFailure o

/-- `decode(o)` of R54: the 16-way dispatch on the primary group (R55). The last arm is group `0xF`. -/
def decode (o : Opcode) : Except DecodeFailure Instr :=
  match fieldG o with
  | 0x0#4 => selectGroup0 o
  | 0x1#4 => .ok (.addressArgJp (fieldNnn o))
  | 0x2#4 => .ok (.addressArgCall (fieldNnn o))
  | 0x3#4 => .ok (.registerByteSe (fieldX o) (fieldKk o))
  | 0x4#4 => .ok (.registerByteSne (fieldX o) (fieldKk o))
  | 0x5#4 => selectGroup5 o
  | 0x6#4 => .ok (.registerByteLd (fieldX o) (fieldKk o))
  | 0x7#4 => .ok (.registerByteAdd (fieldX o) (fieldKk o))
  | 0x8#4 => selectGroup8 o
  | 0x9#4 => selectGroup9 o
  | 0xA#4 => .ok (.addressArgLd (fieldNnn o))
  | 0xB#4 => .ok (.addressArgJpadd (fieldNnn o))
  | 0xC#4 => .ok (.registerByteRnd (fieldX o) (fieldKk o))
  | 0xD#4 => .ok (.draw (fieldX o) (fieldY o) (fieldN o))
  | 0xE#4 => selectGroupE o
  | _ => selectGroupF o

/-- The caller's assembly of two consecutive bytes, high byte first: `opcode_i = {b0, b1}` (20_memory R42). -/
def assemble (b0 b1 : Byte) : Opcode := b0 ++ b1

/-- Why a byte string does not begin with an instruction. -/
inductive BytesReject where
  /-- The first two bytes form an illegal opcode (R63). Safe: it is the spec's own rejection. -/
  | decodeFailure (raw : Raw)
  /-- Fewer than two bytes: no opcode can be assembled (R50, log entry 9). Safe: nothing is decoded. -/
  | incomplete
  deriving DecidableEq, Repr

/-- The first instruction of a byte string and the bytes after it: two bytes per instruction (R42, R50). -/
def decodeBytes (bytes : List Byte) : Except BytesReject (Instr × List Byte) :=
  match bytes with
  | b0 :: b1 :: rest =>
    match decode (assemble b0 b1) with
    | .ok i => .ok (i, rest)
    | .error f => .error (.decodeFailure f.raw)
  | _ => .error .incomplete

/-- The two bytes of an opcode as a caller finds them, high byte at the lower place (R42). -/
def layOut (o : Opcode) : List Byte := [o.extractLsb' 8 8, o.extractLsb' 0 8]

/-- A table word of `nbits` bits as an opcode: the bits above `nbits` are 0 (log entry 14). -/
def tableOpcode (nbits w : Nat) : Opcode := BitVec.ofNat 16 (w % 2 ^ nbits)

/-- The instruction the byte decoder reads from a table word laid out in memory order. -/
def decodeTableWord (nbits w : Nat) : Option Instr :=
  match decodeBytes (layOut (tableOpcode nbits w)) with
  | .ok (i, _) => some i
  | .error _ => none

/-- The word of an instruction, its fields put into the pattern of R62 (30_encoding section 9). -/
def encode (i : Instr) : Opcode :=
  match i with
  | .noArgCls => 0x00E0#16
  | .noArgRet => 0x00EE#16
  | .addressArgSys address => 0x0#4 ++ address
  | .addressArgJp address => 0x1#4 ++ address
  | .addressArgCall address => 0x2#4 ++ address
  | .registerByteSe register byte => 0x3#4 ++ register ++ byte
  | .registerByteSne register byte => 0x4#4 ++ register ++ byte
  | .twoRegisterSe vx vy => 0x5#4 ++ vx ++ vy ++ 0x0#4
  | .registerByteLd register byte => 0x6#4 ++ register ++ byte
  | .registerByteAdd register byte => 0x7#4 ++ register ++ byte
  | .twoRegisterLd vx vy => 0x8#4 ++ vx ++ vy ++ 0x0#4
  | .twoRegisterOr vx vy => 0x8#4 ++ vx ++ vy ++ 0x1#4
  | .twoRegisterAnd vx vy => 0x8#4 ++ vx ++ vy ++ 0x2#4
  | .twoRegisterXor vx vy => 0x8#4 ++ vx ++ vy ++ 0x3#4
  | .twoRegisterAdd vx vy => 0x8#4 ++ vx ++ vy ++ 0x4#4
  | .twoRegisterSub vx vy => 0x8#4 ++ vx ++ vy ++ 0x5#4
  | .singleRegisterShr register y => 0x8#4 ++ register ++ y ++ 0x6#4
  | .twoRegisterSubn vx vy => 0x8#4 ++ vx ++ vy ++ 0x7#4
  | .singleRegisterShl register y => 0x8#4 ++ register ++ y ++ 0xE#4
  | .twoRegisterSne vx vy => 0x9#4 ++ vx ++ vy ++ 0x0#4
  | .addressArgLd address => 0xA#4 ++ address
  | .addressArgJpadd address => 0xB#4 ++ address
  | .registerByteRnd register byte => 0xC#4 ++ register ++ byte
  | .draw vx vy n => 0xD#4 ++ vx ++ vy ++ n
  | .singleRegisterSkp register => 0xE#4 ++ register ++ 0x9E#8
  | .singleRegisterSknp register => 0xE#4 ++ register ++ 0xA1#8
  | .singleRegisterDt2r register => 0xF#4 ++ register ++ 0x07#8
  | .singleRegisterLdk register => 0xF#4 ++ register ++ 0x0A#8
  | .singleRegisterR2dt register => 0xF#4 ++ register ++ 0x15#8
  | .singleRegisterR2st register => 0xF#4 ++ register ++ 0x18#8
  | .singleRegisterAdd register => 0xF#4 ++ register ++ 0x1E#8
  | .singleRegisterLdf register => 0xF#4 ++ register ++ 0x29#8
  | .singleRegisterBcd register => 0xF#4 ++ register ++ 0x33#8
  | .singleRegisterRmem register => 0xF#4 ++ register ++ 0x55#8
  | .singleRegisterMemr register => 0xF#4 ++ register ++ 0x65#8

end Sys2Proof
end

