-- ==== Sys2Proof/Machine/Record.lean ====
section
/-! DEFINITION. The output types of the source (10_state R22 to R27): the six record variants, their tags, and the result
of an evaluation, an instruction record or the decode failure. -/

namespace Sys2Proof

/-- The six structurally distinct shapes (10_state R22). -/
inductive Variant where
  | noArg
  | addressArg
  | registerByte
  | twoRegister
  | singleRegister
  | draw
  deriving DecidableEq, Repr

/-- The tags of NoArg (10_state R24). -/
inductive NoArgTag where
  | cls
  | ret
  deriving DecidableEq, Repr

/-- The tags of AddressArg (10_state R24). -/
inductive AddressArgTag where
  | sys
  | jp
  | call
  | ld
  | jpadd
  deriving DecidableEq, Repr

/-- The tags of RegisterByte (10_state R24). -/
inductive RegisterByteTag where
  | se
  | sne
  | ld
  | add
  | rnd
  deriving DecidableEq, Repr

/-- The tags of TwoRegister (10_state R24). -/
inductive TwoRegisterTag where
  | se
  | ld
  | or
  | and
  | xor
  | add
  | sub
  | subn
  | sne
  deriving DecidableEq, Repr

/-- The tags of SingleRegister (10_state R24). -/
inductive SingleRegisterTag where
  | shr
  | shl
  | skp
  | sknp
  | dt2r
  | ldk
  | r2dt
  | r2st
  | add
  | ldf
  | bcd
  | rmem
  | memr
  deriving DecidableEq, Repr

/-- The instruction record, "each variant carrying only the fields meaningful to its shape", and `raw` in each (R22, R23, R25).
`shiftY` is the field `shift_y` that the two shifts gain when `SHIFT_RETAIN_Y` is true; it is absent everywhere else (R129). -/
inductive InstrRecord where
  | noArg (tag : NoArgTag) (raw : Raw)
  | addressArg (tag : AddressArgTag) (address : Address) (raw : Raw)
  | registerByte (tag : RegisterByteTag) (register : RegIndex) (byte : Byte) (raw : Raw)
  | twoRegister (tag : TwoRegisterTag) (vx vy : RegIndex) (raw : Raw)
  | singleRegister (tag : SingleRegisterTag) (register : RegIndex) (shiftY : Option RegIndex) (raw : Raw)
  | draw (vx vy : RegIndex) (n : Nibble) (raw : Raw)
  deriving DecidableEq, Repr

/-- `Result<Instruction, DecodeError>`: exactly one of the two (00_scope R3). -/
inductive Result where
  | instruction (record : InstrRecord)
  | decodeFailure (raw : Raw)
  deriving DecidableEq, Repr

end Sys2Proof
end

