-- ==== Sys2Proof/Machine/State.lean ====
section
/-! DEFINITION. What the machine is at a moment: the values of its ten ports and its build-time parameter.
The block itself keeps nothing (10_state R20); log entry 1 says why the port values stand here. -/

namespace Sys2Proof.Machine

/-- The nine output ports, at the widths of the port table (10_state R28). -/
structure Ports where
  /-- 1: the result is an instruction; 0: the result is the decode failure. -/
  valid_o : BitVec 1
  /-- The variant code of R29; 0 on failure. -/
  variant_o : BitVec 3
  /-- The instruction id of R30; 0 on failure. -/
  op_o : BitVec 6
  /-- `register` of RegisterByte and SingleRegister; `Vx` of TwoRegister and Draw; else 0. -/
  x_o : BitVec 4
  /-- `Vy` of TwoRegister and Draw; `shift_y` of the shifts when `SHIFT_RETAIN_Y` is true (R129); else 0. -/
  y_o : BitVec 4
  /-- `n` of Draw; else 0. -/
  n_o : BitVec 4
  /-- `byte` of RegisterByte; else 0. -/
  kk_o : BitVec 8
  /-- `address` of AddressArg; else 0. -/
  nnn_o : BitVec 12
  /-- The four characters of `raw` (R32), driven on success and on failure. -/
  raw_o : BitVec 32
  deriving DecidableEq, Repr

/-- The machine: its build-time parameter, the value its caller presents, and the values its outputs show. -/
structure State where
  /-- The build-time parameters, never changed while the block runs (00_scope R10; log entry 4). -/
  config : Config
  /-- The input port: the opcode the caller presents (10_state R21, R28). -/
  opcode_i : Opcode
  /-- The output ports: the function of the input, which they follow whenever it changes (10_state R28, R33; log entry 1). -/
  out : Ports
  deriving DecidableEq, Repr

/-- The reasons a step could stop the machine: none. The one exception of the block, the decode failure, is a result
handed to the caller (60 R190, R192, R196), and no opcode stops the block (70 R215, R219); see log entry 2.
No constructor: nothing raises a fault, which is safe. -/
inductive Fault where
  deriving DecidableEq, Repr

/-- The reasons an instruction could be refused. -/
inductive Refusal where
  /-- An instruction without a meaning yet, by its mnemonic; only Dispatch could raise it, and no arm does. Safe: the step stops. -/
  | notModelled (mnemonic : String)
  deriving DecidableEq, Repr

/-- The block before any caller has presented an opcode: the parameter at its default (R10); the input at 0x0000, a value
the spec does not give (DESIGN CHOICE, log entry 3); the outputs at the evaluation of that input, the decode failure with
`raw = "0000"` (R39: the outputs are the function of whatever `opcode_i` holds). -/
def State.reset : State :=
  { config := Config.standard
    opcode_i := 0x0000#16
    out :=
      { valid_o := 0#1, variant_o := 0#3, op_o := 0#6, x_o := 0#4, y_o := 0#4, n_o := 0#4, kk_o := 0#8, nnn_o := 0#12,
        raw_o := 0x30303030#32 } }

end Sys2Proof.Machine
end

