-- ==== Sys2Proof/Machine/Flags.lean ====
section
/-! DEFINITION. The status outputs. The block has no flag, condition code or status register (10_state R36); what it shows of
its result besides the fields are `valid_o`, `variant_o` (R29) and `op_o` (R30), and their codes are here. -/

namespace Sys2Proof.Machine

/-- The `variant_o` code of a variant (10_state R29); 0 is no variant, 7 is never produced. -/
def variantCode (v : Variant) : BitVec 3 :=
  match v with
  | .noArg => 1#3
  | .addressArg => 2#3
  | .registerByte => 3#3
  | .twoRegister => 4#3
  | .singleRegister => 5#3
  | .draw => 6#3

/-- The `op_o` ids of the NoArg tags (10_state R30). -/
def noArgOp (tag : NoArgTag) : BitVec 6 :=
  match tag with
  | .cls => 1#6
  | .ret => 2#6

/-- The `op_o` ids of the AddressArg tags (10_state R30). -/
def addressArgOp (tag : AddressArgTag) : BitVec 6 :=
  match tag with
  | .sys => 3#6
  | .jp => 4#6
  | .call => 5#6
  | .ld => 21#6
  | .jpadd => 22#6

/-- The `op_o` ids of the RegisterByte tags (10_state R30). -/
def registerByteOp (tag : RegisterByteTag) : BitVec 6 :=
  match tag with
  | .se => 6#6
  | .sne => 7#6
  | .ld => 9#6
  | .add => 10#6
  | .rnd => 23#6

/-- The `op_o` ids of the TwoRegister tags (10_state R30). -/
def twoRegisterOp (tag : TwoRegisterTag) : BitVec 6 :=
  match tag with
  | .se => 8#6
  | .ld => 11#6
  | .or => 12#6
  | .and => 13#6
  | .xor => 14#6
  | .add => 15#6
  | .sub => 16#6
  | .subn => 18#6
  | .sne => 20#6

/-- The `op_o` ids of the SingleRegister tags (10_state R30). -/
def singleRegisterOp (tag : SingleRegisterTag) : BitVec 6 :=
  match tag with
  | .shr => 17#6
  | .shl => 19#6
  | .skp => 25#6
  | .sknp => 26#6
  | .dt2r => 27#6
  | .ldk => 28#6
  | .r2dt => 29#6
  | .r2st => 30#6
  | .add => 31#6
  | .ldf => 32#6
  | .bcd => 33#6
  | .rmem => 34#6
  | .memr => 35#6

/-- The `op_o` id of `Draw` (10_state R30). -/
def drawOp : BitVec 6 := 24#6

/-- The variant an instruction id belongs to (R30: "The id determines the variant and the tag"); nothing for 0 and 36 to 63. -/
def variantOfOp (op : BitVec 6) : Option Variant :=
  if op = 0#6 then none
  else if op ≤ 2#6 then some .noArg
  else if op ≤ 5#6 then some .addressArg
  else if op ≤ 7#6 then some .registerByte
  else if op = 8#6 then some .twoRegister
  else if op ≤ 10#6 then some .registerByte
  else if op = 17#6 then some .singleRegister
  else if op = 19#6 then some .singleRegister
  else if op ≤ 20#6 then some .twoRegister
  else if op ≤ 22#6 then some .addressArg
  else if op = 23#6 then some .registerByte
  else if op = 24#6 then some .draw
  else if op ≤ 35#6 then some .singleRegister
  else none

/-- The two instructions whose `y` nibble is read and not kept: `SHR` (17) and `SHL` (19) (44_group_8 R127, R130). -/
def isShiftOp (op : BitVec 6) : Bool :=
  op == 17#6 || op == 19#6

end Sys2Proof.Machine
end

