-- ==== Sys2Proof/Machine/Operands.lean ====
section
/-! DEFINITION. The operand forms: for each variant, the output ports its fields drive, every other field port at 0
(10_state R23, R28, R31). -/

namespace Sys2Proof.Machine

/-- The outputs of the decode failure: everything 0 but `raw_o` (10_state R31; 60 R192). -/
def portsFailure (raw : BitVec 32) : Ports :=
  { valid_o := 0#1, variant_o := 0#3, op_o := 0#6, x_o := 0#4, y_o := 0#4, n_o := 0#4, kk_o := 0#8, nnn_o := 0#12,
    raw_o := raw }

/-- The outputs of an instruction of variant `v` with id `op` and no field: `valid_o = 1` and the codes (10_state R33). -/
def portsInstruction (v : Variant) (op : BitVec 6) (raw : BitVec 32) : Ports :=
  { portsFailure raw with valid_o := 1#1, variant_o := variantCode v, op_o := op }

/-- NoArg: no field (10_state R23). -/
def portsNoArg (op : BitVec 6) (raw : BitVec 32) : Ports :=
  portsInstruction .noArg op raw

/-- AddressArg: `nnn_o = address` (10_state R28). -/
def portsAddressArg (op : BitVec 6) (address : Address) (raw : BitVec 32) : Ports :=
  { portsInstruction .addressArg op raw with nnn_o := address }

/-- RegisterByte: `x_o = register`, `kk_o = byte` (10_state R28). -/
def portsRegisterByte (op : BitVec 6) (register : RegIndex) (byte : Byte) (raw : BitVec 32) : Ports :=
  { portsInstruction .registerByte op raw with x_o := register, kk_o := byte }

/-- TwoRegister: `x_o = Vx`, `y_o = Vy` (10_state R28). -/
def portsTwoRegister (op : BitVec 6) (vx vy : RegIndex) (raw : BitVec 32) : Ports :=
  { portsInstruction .twoRegister op raw with x_o := vx, y_o := vy }

/-- The nibble a shift shows on `y_o`: `y` when `SHIFT_RETAIN_Y` is true, 0 when it is false (44_group_8 R129). -/
def shiftYPort (c : Config) (y : RegIndex) : BitVec 4 :=
  if c.shiftRetainY then y else 0#4

/-- SingleRegister: `x_o = register`, and `shiftY` on `y_o`, 0 for every instruction but the shifts (10_state R28, R31). -/
def portsSingleRegister (op : BitVec 6) (register : RegIndex) (shiftY : BitVec 4) (raw : BitVec 32) : Ports :=
  { portsInstruction .singleRegister op raw with x_o := register, y_o := shiftY }

/-- Draw: `x_o = Vx`, `y_o = Vy`, `n_o = n` (10_state R28). -/
def portsDraw (vx vy : RegIndex) (n : Nibble) (raw : BitVec 32) : Ports :=
  { portsInstruction .draw drawOp raw with x_o := vx, y_o := vy, n_o := n }

end Sys2Proof.Machine
end

