-- ==== Sys2Proof/Machine/Ops.lean ====
section
/-! DEFINITION. The shared operations: reading the input, driving the outputs of each variant, and taking the
block's one exception. The block has no memory and no registers to operate on (10_state R34, R38). -/

namespace Sys2Proof.Machine

/-- What an evaluation answers. -/
abbrev Answer := Host.Outcome State Fault Refusal

/-- The opcode of this evaluation: what the input port holds. The block fetches nothing (20_memory R40). -/
def presented (s : State) : Opcode := s.opcode_i

/-- The value of `raw_o` in this evaluation, from the opcode alone (48 R167; log entry 7). -/
def presentedRaw (s : State) : BitVec 32 := rawPort (presented s)

/-- One evaluation sets all nine outputs and nothing else: the parameter and the input stay (00_scope R10; 20_memory R44). -/
def drive (p : Ports) (s : State) : Answer := .next { s with out := p }

/-- Taking the block's one exception (60 R190, R192, R196): the outputs show the failure with the raw form of the opcode;
no state is saved, no mode changes, control goes nowhere. There is no return from it (60 R198). -/
def takeDecodeFailure (s : State) : Answer := drive (portsFailure (presentedRaw s)) s

/-- The output of a NoArg instruction. -/
def driveNoArg (op : BitVec 6) (s : State) : Answer := drive (portsNoArg op (presentedRaw s)) s

/-- The output of an AddressArg instruction. -/
def driveAddressArg (op : BitVec 6) (address : Address) (s : State) : Answer :=
  drive (portsAddressArg op address (presentedRaw s)) s

/-- The output of a RegisterByte instruction. -/
def driveRegisterByte (op : BitVec 6) (register : RegIndex) (byte : Byte) (s : State) : Answer :=
  drive (portsRegisterByte op register byte (presentedRaw s)) s

/-- The output of a TwoRegister instruction. -/
def driveTwoRegister (op : BitVec 6) (vx vy : RegIndex) (s : State) : Answer :=
  drive (portsTwoRegister op vx vy (presentedRaw s)) s

/-- The output of a SingleRegister instruction that keeps one register index. -/
def driveSingleRegister (op : BitVec 6) (register : RegIndex) (s : State) : Answer :=
  drive (portsSingleRegister op register 0#4 (presentedRaw s)) s

/-- The output of a shift: `y` is read, and kept only when `SHIFT_RETAIN_Y` is true (44_group_8 R129). -/
def driveShift (op : BitVec 6) (register y : RegIndex) (s : State) : Answer :=
  drive (portsSingleRegister op register (shiftYPort s.config y) (presentedRaw s)) s

/-- The output of Draw. -/
def driveDraw (vx vy : RegIndex) (n : Nibble) (s : State) : Answer :=
  drive (portsDraw vx vy n (presentedRaw s)) s

end Sys2Proof.Machine
end

