-- ==== Sys2Proof/Machine/AddressArg.lean ====
section
/-! DEFINITION. Groups 1, 2, A, B (41_address_arg R90 to R94): the meaning of each instruction is the record the block
outputs for it (00_scope R6); it writes no flag and no state and raises nothing. -/

namespace Sys2Proof.Machine

/-- `AddressArg.JP`, `1nnn` (R91): `AddressArg{JP, address=nnn, raw}`; `op_o = 4`. -/
def execAddressArgJp (address : Address) (s : State) : Answer := driveAddressArg 4#6 address s

/-- `AddressArg.CALL`, `2nnn` (R92): `AddressArg{CALL, address=nnn, raw}`; `op_o = 5`. -/
def execAddressArgCall (address : Address) (s : State) : Answer := driveAddressArg 5#6 address s

/-- `AddressArg.LD`, `Annn` (R93): `AddressArg{LD, address=nnn, raw}`; `op_o = 21`. -/
def execAddressArgLd (address : Address) (s : State) : Answer := driveAddressArg 21#6 address s

/-- `AddressArg.JPADD`, `Bnnn` (R94): `AddressArg{JPADD, address=nnn, raw}`; `op_o = 22`. -/
def execAddressArgJpadd (address : Address) (s : State) : Answer := driveAddressArg 22#6 address s

end Sys2Proof.Machine
end

