-- ==== Sys2Proof/Machine/DrawGroup.lean ====
section
/-! DEFINITION. Group D (45_draw R135, R136): the meaning of each instruction is the record the block
outputs for it (00_scope R6); it writes no flag and no state and raises nothing. -/

namespace Sys2Proof.Machine

/-- `Draw`, `Dxyn` (R136): `Draw{Vx=x, Vy=y, n=n, raw}`; `op_o = 24`. -/
def execDraw (vx : RegIndex) (vy : RegIndex) (n : Nibble) (s : State) : Answer := driveDraw vx vy n s

end Sys2Proof.Machine
end

