-- ==== Sys2Proof/Machine/Group0.lean ====
section
/-! DEFINITION. Group 0 (40_group_0 R80 to R83): the meaning of each instruction is the record the block
outputs for it (00_scope R6); it writes no flag and no state and raises nothing. -/

namespace Sys2Proof.Machine

/-- `NoArg.CLS`, `00E0` (R82): `NoArg{CLS, raw}`; `op_o = 1`. -/
def execNoArgCls (s : State) : Answer := driveNoArg 1#6 s

/-- `NoArg.RET`, `00EE` (R83): `NoArg{RET, raw}`; `op_o = 2`. -/
def execNoArgRet (s : State) : Answer := driveNoArg 2#6 s

/-- `AddressArg.SYS`, `0nnn with nnn >= 0x200` (R81): `AddressArg{SYS, address=nnn, raw}`; `op_o = 3`. -/
def execAddressArgSys (address : Address) (s : State) : Answer := driveAddressArg 3#6 address s

end Sys2Proof.Machine
end

