-- ==== Sys2Proof/Machine/Group8.lean ====
section
/-! DEFINITION. Group 8 (44_group_8 R120 to R130): the meaning of each instruction is the record the block
outputs for it (00_scope R6); it writes no flag and no state and raises nothing. -/

namespace Sys2Proof.Machine

/-- `TwoRegister.LD`, `8xy0` (R121): `TwoRegister{LD, Vx=x, Vy=y, raw}`; `op_o = 11`. -/
def execTwoRegisterLd (vx : RegIndex) (vy : RegIndex) (s : State) : Answer := driveTwoRegister 11#6 vx vy s

/-- `TwoRegister.OR`, `8xy1` (R122): `TwoRegister{OR, Vx=x, Vy=y, raw}`; `op_o = 12`. -/
def execTwoRegisterOr (vx : RegIndex) (vy : RegIndex) (s : State) : Answer := driveTwoRegister 12#6 vx vy s

/-- `TwoRegister.AND`, `8xy2` (R123): `TwoRegister{AND, Vx=x, Vy=y, raw}`; `op_o = 13`. -/
def execTwoRegisterAnd (vx : RegIndex) (vy : RegIndex) (s : State) : Answer := driveTwoRegister 13#6 vx vy s

/-- `TwoRegister.XOR`, `8xy3` (R124): `TwoRegister{XOR, Vx=x, Vy=y, raw}`; `op_o = 14`. -/
def execTwoRegisterXor (vx : RegIndex) (vy : RegIndex) (s : State) : Answer := driveTwoRegister 14#6 vx vy s

/-- `TwoRegister.ADD`, `8xy4` (R125): `TwoRegister{ADD, Vx=x, Vy=y, raw}`; `op_o = 15`. -/
def execTwoRegisterAdd (vx : RegIndex) (vy : RegIndex) (s : State) : Answer := driveTwoRegister 15#6 vx vy s

/-- `TwoRegister.SUB`, `8xy5` (R126): `TwoRegister{SUB, Vx=x, Vy=y, raw}`; `op_o = 16`. -/
def execTwoRegisterSub (vx : RegIndex) (vy : RegIndex) (s : State) : Answer := driveTwoRegister 16#6 vx vy s

/-- `SingleRegister.SHR`, `8x?6` (R127): `SingleRegister{SHR, register=x, raw}`; `shift_y=y` besides when `SHIFT_RETAIN_Y` is true (R129); `op_o = 17`. -/
def execSingleRegisterShr (register : RegIndex) (y : RegIndex) (s : State) : Answer := driveShift 17#6 register y s

/-- `TwoRegister.SUBN`, `8xy7` (R128): `TwoRegister{SUBN, Vx=x, Vy=y, raw}`; `op_o = 18`. -/
def execTwoRegisterSubn (vx : RegIndex) (vy : RegIndex) (s : State) : Answer := driveTwoRegister 18#6 vx vy s

/-- `SingleRegister.SHL`, `8x?E` (R130): `SingleRegister{SHL, register=x, raw}`; `shift_y=y` besides when `SHIFT_RETAIN_Y` is true (R129); `op_o = 19`. -/
def execSingleRegisterShl (register : RegIndex) (y : RegIndex) (s : State) : Answer := driveShift 19#6 register y s

end Sys2Proof.Machine
end

