-- ==== Sys2Proof/Machine/GroupE.lean ====
section
/-! DEFINITION. Group E (46_group_E R140 to R142): the meaning of each instruction is the record the block
outputs for it (00_scope R6); it writes no flag and no state and raises nothing. -/

namespace Sys2Proof.Machine

/-- `SingleRegister.SKP`, `Ex9E` (R141): `SingleRegister{SKP, register=x, raw}`; `op_o = 25`. -/
def execSingleRegisterSkp (register : RegIndex) (s : State) : Answer := driveSingleRegister 25#6 register s

/-- `SingleRegister.SKNP`, `ExA1` (R142): `SingleRegister{SKNP, register=x, raw}`; `op_o = 26`. -/
def execSingleRegisterSknp (register : RegIndex) (s : State) : Answer := driveSingleRegister 26#6 register s

end Sys2Proof.Machine
end

