-- ==== Sys2Proof/Machine/GroupF.lean ====
section
/-! DEFINITION. Group F (47_group_F R150 to R159): the meaning of each instruction is the record the block
outputs for it (00_scope R6); it writes no flag and no state and raises nothing. -/

namespace Sys2Proof.Machine

/-- `SingleRegister.DT2R`, `Fx07` (R151): `SingleRegister{DT2R, register=x, raw}`; `op_o = 27`. -/
def execSingleRegisterDt2r (register : RegIndex) (s : State) : Answer := driveSingleRegister 27#6 register s

/-- `SingleRegister.LDK`, `Fx0A` (R152): `SingleRegister{LDK, register=x, raw}`; `op_o = 28`. -/
def execSingleRegisterLdk (register : RegIndex) (s : State) : Answer := driveSingleRegister 28#6 register s

/-- `SingleRegister.R2DT`, `Fx15` (R153): `SingleRegister{R2DT, register=x, raw}`; `op_o = 29`. -/
def execSingleRegisterR2dt (register : RegIndex) (s : State) : Answer := driveSingleRegister 29#6 register s

/-- `SingleRegister.R2ST`, `Fx18` (R154): `SingleRegister{R2ST, register=x, raw}`; `op_o = 30`. -/
def execSingleRegisterR2st (register : RegIndex) (s : State) : Answer := driveSingleRegister 30#6 register s

/-- `SingleRegister.ADD`, `Fx1E` (R155): `SingleRegister{ADD, register=x, raw}`; `op_o = 31`. -/
def execSingleRegisterAdd (register : RegIndex) (s : State) : Answer := driveSingleRegister 31#6 register s

/-- `SingleRegister.LDF`, `Fx29` (R156): `SingleRegister{LDF, register=x, raw}`; `op_o = 32`. -/
def execSingleRegisterLdf (register : RegIndex) (s : State) : Answer := driveSingleRegister 32#6 register s

/-- `SingleRegister.BCD`, `Fx33` (R157): `SingleRegister{BCD, register=x, raw}`; `op_o = 33`. -/
def execSingleRegisterBcd (register : RegIndex) (s : State) : Answer := driveSingleRegister 33#6 register s

/-- `SingleRegister.RMEM`, `Fx55` (R158): `SingleRegister{RMEM, register=x, raw}`; `op_o = 34`. -/
def execSingleRegisterRmem (register : RegIndex) (s : State) : Answer := driveSingleRegister 34#6 register s

/-- `SingleRegister.MEMR`, `Fx65` (R159): `SingleRegister{MEMR, register=x, raw}`; `op_o = 35`. -/
def execSingleRegisterMemr (register : RegIndex) (s : State) : Answer := driveSingleRegister 35#6 register s

end Sys2Proof.Machine
end

