-- ==== Sys2Proof/Machine/RegisterByte.lean ====
section
/-! DEFINITION. Groups 3, 4, 6, 7, C (42_register_byte R100 to R105): the meaning of each instruction is the record the block
outputs for it (00_scope R6); it writes no flag and no state and raises nothing. -/

namespace Sys2Proof.Machine

/-- `RegisterByte.SE`, `3xkk` (R101): `RegisterByte{SE, register=x, byte=kk, raw}`; `op_o = 6`. -/
def execRegisterByteSe (register : RegIndex) (byte : Byte) (s : State) : Answer := driveRegisterByte 6#6 register byte s

/-- `RegisterByte.SNE`, `4xkk` (R102): `RegisterByte{SNE, register=x, byte=kk, raw}`; `op_o = 7`. -/
def execRegisterByteSne (register : RegIndex) (byte : Byte) (s : State) : Answer := driveRegisterByte 7#6 register byte s

/-- `RegisterByte.LD`, `6xkk` (R103): `RegisterByte{LD, register=x, byte=kk, raw}`; `op_o = 9`. -/
def execRegisterByteLd (register : RegIndex) (byte : Byte) (s : State) : Answer := driveRegisterByte 9#6 register byte s

/-- `RegisterByte.ADD`, `7xkk` (R104): `RegisterByte{ADD, register=x, byte=kk, raw}`; `op_o = 10`. -/
def execRegisterByteAdd (register : RegIndex) (byte : Byte) (s : State) : Answer := driveRegisterByte 10#6 register byte s

/-- `RegisterByte.RND`, `Cxkk` (R105): `RegisterByte{RND, register=x, byte=kk, raw}`; `op_o = 23`. -/
def execRegisterByteRnd (register : RegIndex) (byte : Byte) (s : State) : Answer := driveRegisterByte 23#6 register byte s

end Sys2Proof.Machine
end

