-- ==== Sys2Proof/Machine/RegisterPairCompare.lean ====
section
/-! DEFINITION. Groups 5 and 9 (43_register_pair_compare R110 to R112): the meaning of each instruction is the record the block
outputs for it (00_scope R6); it writes no flag and no state and raises nothing. -/

namespace Sys2Proof.Machine

/-- `TwoRegister.SE`, `5xy0` (R111): `TwoRegister{SE, Vx=x, Vy=y, raw}`; `op_o = 8`. -/
def execTwoRegisterSe (vx : RegIndex) (vy : RegIndex) (s : State) : Answer := driveTwoRegister 8#6 vx vy s

/-- `TwoRegister.SNE`, `9xy0` (R112): `TwoRegister{SNE, Vx=x, Vy=y, raw}`; `op_o = 20`. -/
def execTwoRegisterSne (vx : RegIndex) (vy : RegIndex) (s : State) : Answer := driveTwoRegister 20#6 vx vy s

end Sys2Proof.Machine
end

