-- ==== Sys2Proof/Machine/Dispatch.lean ====
section
/-! DEFINITION. One arm per instruction, each a direct call of its meaning. -/

namespace Sys2Proof.Machine

def exec (i : Instr) (s : State) : Host.Outcome State Fault Refusal :=
  match i with
  | .noArgCls => Sys2Proof.Machine.execNoArgCls s
  | .noArgRet => Sys2Proof.Machine.execNoArgRet s
  | .addressArgSys address => Sys2Proof.Machine.execAddressArgSys address s
  | .addressArgJp address => Sys2Proof.Machine.execAddressArgJp address s
  | .addressArgCall address => Sys2Proof.Machine.execAddressArgCall address s
  | .registerByteSe register byte => Sys2Proof.Machine.execRegisterByteSe register byte s
  | .registerByteSne register byte => Sys2Proof.Machine.execRegisterByteSne register byte s
  | .twoRegisterSe vx vy => Sys2Proof.Machine.execTwoRegisterSe vx vy s
  | .registerByteLd register byte => Sys2Proof.Machine.execRegisterByteLd register byte s
  | .registerByteAdd register byte => Sys2Proof.Machine.execRegisterByteAdd register byte s
  | .twoRegisterLd vx vy => Sys2Proof.Machine.execTwoRegisterLd vx vy s
  | .twoRegisterOr vx vy => Sys2Proof.Machine.execTwoRegisterOr vx vy s
  | .twoRegisterAnd vx vy => Sys2Proof.Machine.execTwoRegisterAnd vx vy s
  | .twoRegisterXor vx vy => Sys2Proof.Machine.execTwoRegisterXor vx vy s
  | .twoRegisterAdd vx vy => Sys2Proof.Machine.execTwoRegisterAdd vx vy s
  | .twoRegisterSub vx vy => Sys2Proof.Machine.execTwoRegisterSub vx vy s
  | .singleRegisterShr register y => Sys2Proof.Machine.execSingleRegisterShr register y s
  | .twoRegisterSubn vx vy => Sys2Proof.Machine.execTwoRegisterSubn vx vy s
  | .singleRegisterShl register y => Sys2Proof.Machine.execSingleRegisterShl register y s
  | .twoRegisterSne vx vy => Sys2Proof.Machine.execTwoRegisterSne vx vy s
  | .addressArgLd address => Sys2Proof.Machine.execAddressArgLd address s
  | .addressArgJpadd address => Sys2Proof.Machine.execAddressArgJpadd address s
  | .registerByteRnd register byte => Sys2Proof.Machine.execRegisterByteRnd register byte s
  | .draw vx vy n => Sys2Proof.Machine.execDraw vx vy n s
  | .singleRegisterSkp register => Sys2Proof.Machine.execSingleRegisterSkp register s
  | .singleRegisterSknp register => Sys2Proof.Machine.execSingleRegisterSknp register s
  | .singleRegisterDt2r register => Sys2Proof.Machine.execSingleRegisterDt2r register s
  | .singleRegisterLdk register => Sys2Proof.Machine.execSingleRegisterLdk register s
  | .singleRegisterR2dt register => Sys2Proof.Machine.execSingleRegisterR2dt register s
  | .singleRegisterR2st register => Sys2Proof.Machine.execSingleRegisterR2st register s
  | .singleRegisterAdd register => Sys2Proof.Machine.execSingleRegisterAdd register s
  | .singleRegisterLdf register => Sys2Proof.Machine.execSingleRegisterLdf register s
  | .singleRegisterBcd register => Sys2Proof.Machine.execSingleRegisterBcd register s
  | .singleRegisterRmem register => Sys2Proof.Machine.execSingleRegisterRmem register s
  | .singleRegisterMemr register => Sys2Proof.Machine.execSingleRegisterMemr register s

end Sys2Proof.Machine
end

