-- ==== Sys2Proof/Machine/Evaluate.lean ====
section
/-! DEFINITION. The combinational block: one evaluation for the opcode at the input, and the outputs that follow the input.
The outputs at any moment are the function of the input at that moment (10_state R28, decision D1; 70_reset_and_hazards R211),
so a new input and the outputs it gives are one action; no state that presenting reaches shows the outputs of another input. -/

namespace Sys2Proof.Machine

/-- One evaluation: an instruction gives its record, an illegal word the decode failure (30_encoding R54, R63). -/
def evaluate (s : State) : Answer :=
  match decode (presented s) with
  | .ok i => exec i s
  | .error _ => takeDecodeFailure s

/-- The state with the outputs of its own input: the one state the circuit can be in for that input (10_state R28, R33).
An evaluation always answers a next state (70 R215; lemma `evaluate_eq`), so the other two arms are never taken. -/
def settle (s : State) : State :=
  match evaluate s with
  | .next t => t
  | .fault _ => s
  | .refused _ => s

/-- The caller's one action: a new value on the input port (70 R213). The outputs follow it with no latency, without a step
and without a clock (10_state R28; 70 R217). -/
def State.present (s : State) (o : Opcode) : State := settle { s with opcode_i := o }

end Sys2Proof.Machine
end

