-- ==== Sys2Proof/Machine/Step.lean ====
section
/-! DEFINITION. One step is one evaluation of the block for the opcode present at its input (00_scope R3; 10_state R28). -/

namespace Sys2Proof.Machine

/-- Decode the presented opcode and run what it decodes to. On the settled circuit this changes nothing (20_memory R44): the
outputs already show it. -/
def step (s : State) : Host.Outcome State Fault Refusal := evaluate s

/-- The instruction word put where the next step reads it: on the input port, as a caller presents it, and the outputs
follow it (10_state R28; 70 R213; log entry 8). -/
def State.withFetchWord (s : State) (nbits w : Nat) : State := s.present (tableOpcode nbits w)

end Sys2Proof.Machine
end

