-- ==== Sys2Proof/Machine/OpcodeTable.lean ====
section
/-! DEFINITION. The complete instruction list (30_encoding R62) as data: one row per instruction, its id, name, mask, match and
extra condition; and the id and name of an instruction (10_state R30; 00_scope R16). -/

namespace Sys2Proof

/-- A row of R62: an opcode is this instruction exactly when `(o & mask) == match` and the extra condition holds. -/
structure OpcodeRow where
  /-- The `op_o` code (10_state R30). -/
  id : BitVec 6
  /-- The instruction name `<Variant>.<tag>` (00_scope R16). -/
  name : String
  mask : Opcode
  /-- The column `match`. -/
  value : Opcode
  /-- The extra condition: the least address accepted, if the row has one (`nnn >= 0x200` for SYS). -/
  least : Option Address
  deriving DecidableEq, Repr

/-- Whether an opcode satisfies a row (R62). -/
def OpcodeRow.accepts (r : OpcodeRow) (o : Opcode) : Bool :=
  (o &&& r.mask) == r.value
    && match r.least with
       | none => true
       | some a => decide (a ≤ fieldNnn o)

/-- Rows 1 to 9 of the list of R62. -/
def opcodeRows1 : List OpcodeRow :=
  [ { id := 1#6, name := "NoArg.CLS", mask := 0xFFFF#16, value := 0x00E0#16, least := none },
    { id := 2#6, name := "NoArg.RET", mask := 0xFFFF#16, value := 0x00EE#16, least := none },
    { id := 3#6, name := "AddressArg.SYS", mask := 0xF000#16, value := 0x0000#16, least := some sysMinAddr },
    { id := 4#6, name := "AddressArg.JP", mask := 0xF000#16, value := 0x1000#16, least := none },
    { id := 5#6, name := "AddressArg.CALL", mask := 0xF000#16, value := 0x2000#16, least := none },
    { id := 6#6, name := "RegisterByte.SE", mask := 0xF000#16, value := 0x3000#16, least := none },
    { id := 7#6, name := "RegisterByte.SNE", mask := 0xF000#16, value := 0x4000#16, least := none },
    { id := 8#6, name := "TwoRegister.SE", mask := 0xF00F#16, value := 0x5000#16, least := none },
    { id := 9#6, name := "RegisterByte.LD", mask := 0xF000#16, value := 0x6000#16, least := none } ]

/-- Rows 10 to 18 of the list of R62. -/
def opcodeRows2 : List OpcodeRow :=
  [ { id := 10#6, name := "RegisterByte.ADD", mask := 0xF000#16, value := 0x7000#16, least := none },
    { id := 11#6, name := "TwoRegister.LD", mask := 0xF00F#16, value := 0x8000#16, least := none },
    { id := 12#6, name := "TwoRegister.OR", mask := 0xF00F#16, value := 0x8001#16, least := none },
    { id := 13#6, name := "TwoRegister.AND", mask := 0xF00F#16, value := 0x8002#16, least := none },
    { id := 14#6, name := "TwoRegister.XOR", mask := 0xF00F#16, value := 0x8003#16, least := none },
    { id := 15#6, name := "TwoRegister.ADD", mask := 0xF00F#16, value := 0x8004#16, least := none },
    { id := 16#6, name := "TwoRegister.SUB", mask := 0xF00F#16, value := 0x8005#16, least := none },
    { id := 17#6, name := "SingleRegister.SHR", mask := 0xF00F#16, value := 0x8006#16, least := none },
    { id := 18#6, name := "TwoRegister.SUBN", mask := 0xF00F#16, value := 0x8007#16, least := none } ]

/-- Rows 19 to 27 of the list of R62. -/
def opcodeRows3 : List OpcodeRow :=
  [ { id := 19#6, name := "SingleRegister.SHL", mask := 0xF00F#16, value := 0x800E#16, least := none },
    { id := 20#6, name := "TwoRegister.SNE", mask := 0xF00F#16, value := 0x9000#16, least := none },
    { id := 21#6, name := "AddressArg.LD", mask := 0xF000#16, value := 0xA000#16, least := none },
    { id := 22#6, name := "AddressArg.JPADD", mask := 0xF000#16, value := 0xB000#16, least := none },
    { id := 23#6, name := "RegisterByte.RND", mask := 0xF000#16, value := 0xC000#16, least := none },
    { id := 24#6, name := "Draw", mask := 0xF000#16, value := 0xD000#16, least := none },
    { id := 25#6, name := "SingleRegister.SKP", mask := 0xF0FF#16, value := 0xE09E#16, least := none },
    { id := 26#6, name := "SingleRegister.SKNP", mask := 0xF0FF#16, value := 0xE0A1#16, least := none },
    { id := 27#6, name := "SingleRegister.DT2R", mask := 0xF0FF#16, value := 0xF007#16, least := none } ]

/-- Rows 28 to 35 of the list of R62. -/
def opcodeRows4 : List OpcodeRow :=
  [ { id := 28#6, name := "SingleRegister.LDK", mask := 0xF0FF#16, value := 0xF00A#16, least := none },
    { id := 29#6, name := "SingleRegister.R2DT", mask := 0xF0FF#16, value := 0xF015#16, least := none },
    { id := 30#6, name := "SingleRegister.R2ST", mask := 0xF0FF#16, value := 0xF018#16, least := none },
    { id := 31#6, name := "SingleRegister.ADD", mask := 0xF0FF#16, value := 0xF01E#16, least := none },
    { id := 32#6, name := "SingleRegister.LDF", mask := 0xF0FF#16, value := 0xF029#16, least := none },
    { id := 33#6, name := "SingleRegister.BCD", mask := 0xF0FF#16, value := 0xF033#16, least := none },
    { id := 34#6, name := "SingleRegister.RMEM", mask := 0xF0FF#16, value := 0xF055#16, least := none },
    { id := 35#6, name := "SingleRegister.MEMR", mask := 0xF0FF#16, value := 0xF065#16, least := none } ]

/-- The 35 rows of R62, in the order of their ids. -/
def opcodeRows : List OpcodeRow := opcodeRows1 ++ opcodeRows2 ++ opcodeRows3 ++ opcodeRows4

/-- The id of an instruction, its `op_o` code (10_state R30). -/
def opId (i : Instr) : BitVec 6 :=
  match i with
  | .noArgCls => 1#6
  | .noArgRet => 2#6
  | .addressArgSys _ => 3#6
  | .addressArgJp _ => 4#6
  | .addressArgCall _ => 5#6
  | .registerByteSe _ _ => 6#6
  | .registerByteSne _ _ => 7#6
  | .twoRegisterSe _ _ => 8#6
  | .registerByteLd _ _ => 9#6
  | .registerByteAdd _ _ => 10#6
  | .twoRegisterLd _ _ => 11#6
  | .twoRegisterOr _ _ => 12#6
  | .twoRegisterAnd _ _ => 13#6
  | .twoRegisterXor _ _ => 14#6
  | .twoRegisterAdd _ _ => 15#6
  | .twoRegisterSub _ _ => 16#6
  | .singleRegisterShr _ _ => 17#6
  | .twoRegisterSubn _ _ => 18#6
  | .singleRegisterShl _ _ => 19#6
  | .twoRegisterSne _ _ => 20#6
  | .addressArgLd _ => 21#6
  | .addressArgJpadd _ => 22#6
  | .registerByteRnd _ _ => 23#6
  | .draw _ _ _ => 24#6
  | .singleRegisterSkp _ => 25#6
  | .singleRegisterSknp _ => 26#6
  | .singleRegisterDt2r _ => 27#6
  | .singleRegisterLdk _ => 28#6
  | .singleRegisterR2dt _ => 29#6
  | .singleRegisterR2st _ => 30#6
  | .singleRegisterAdd _ => 31#6
  | .singleRegisterLdf _ => 32#6
  | .singleRegisterBcd _ => 33#6
  | .singleRegisterRmem _ => 34#6
  | .singleRegisterMemr _ => 35#6

/-- The unique name of an instruction (00_scope R16, decision D7). -/
def instrName (i : Instr) : String :=
  match i with
  | .noArgCls => "NoArg.CLS"
  | .noArgRet => "NoArg.RET"
  | .addressArgSys _ => "AddressArg.SYS"
  | .addressArgJp _ => "AddressArg.JP"
  | .addressArgCall _ => "AddressArg.CALL"
  | .registerByteSe _ _ => "RegisterByte.SE"
  | .registerByteSne _ _ => "RegisterByte.SNE"
  | .twoRegisterSe _ _ => "TwoRegister.SE"
  | .registerByteLd _ _ => "RegisterByte.LD"
  | .registerByteAdd _ _ => "RegisterByte.ADD"
  | .twoRegisterLd _ _ => "TwoRegister.LD"
  | .twoRegisterOr _ _ => "TwoRegister.OR"
  | .twoRegisterAnd _ _ => "TwoRegister.AND"
  | .twoRegisterXor _ _ => "TwoRegister.XOR"
  | .twoRegisterAdd _ _ => "TwoRegister.ADD"
  | .twoRegisterSub _ _ => "TwoRegister.SUB"
  | .singleRegisterShr _ _ => "SingleRegister.SHR"
  | .twoRegisterSubn _ _ => "TwoRegister.SUBN"
  | .singleRegisterShl _ _ => "SingleRegister.SHL"
  | .twoRegisterSne _ _ => "TwoRegister.SNE"
  | .addressArgLd _ => "AddressArg.LD"
  | .addressArgJpadd _ => "AddressArg.JPADD"
  | .registerByteRnd _ _ => "RegisterByte.RND"
  | .draw _ _ _ => "Draw"
  | .singleRegisterSkp _ => "SingleRegister.SKP"
  | .singleRegisterSknp _ => "SingleRegister.SKNP"
  | .singleRegisterDt2r _ => "SingleRegister.DT2R"
  | .singleRegisterLdk _ => "SingleRegister.LDK"
  | .singleRegisterR2dt _ => "SingleRegister.R2DT"
  | .singleRegisterR2st _ => "SingleRegister.R2ST"
  | .singleRegisterAdd _ => "SingleRegister.ADD"
  | .singleRegisterLdf _ => "SingleRegister.LDF"
  | .singleRegisterBcd _ => "SingleRegister.BCD"
  | .singleRegisterRmem _ => "SingleRegister.RMEM"
  | .singleRegisterMemr _ => "SingleRegister.MEMR"

/-- The row of an instruction. -/
def rowOf (i : Instr) : Option OpcodeRow := opcodeRows.find? (fun r => r.id == opId i)

end Sys2Proof
end

