-- ==== Sys2Proof/Machine/Result.lean ====
section
/-! DEFINITION. The abstract result of an evaluation (10_state R22 to R27) and its tie to the ports (R33). -/

namespace Sys2Proof.Machine

/-- The field `shift_y` of the two shifts: present only when `SHIFT_RETAIN_Y` is true (44_group_8 R129). -/
def shiftYField (c : Config) (y : RegIndex) : Option RegIndex :=
  if c.shiftRetainY then some y else none

/-- The record of an instruction, with the raw form of its opcode (10_state R22 to R25). -/
def recordOf (c : Config) (raw : Raw) (i : Instr) : InstrRecord :=
  match i with
  | .noArgCls => .noArg .cls raw
  | .noArgRet => .noArg .ret raw
  | .addressArgSys address => .addressArg .sys address raw
  | .addressArgJp address => .addressArg .jp address raw
  | .addressArgCall address => .addressArg .call address raw
  | .registerByteSe register byte => .registerByte .se register byte raw
  | .registerByteSne register byte => .registerByte .sne register byte raw
  | .twoRegisterSe vx vy => .twoRegister .se vx vy raw
  | .registerByteLd register byte => .registerByte .ld register byte raw
  | .registerByteAdd register byte => .registerByte .add register byte raw
  | .twoRegisterLd vx vy => .twoRegister .ld vx vy raw
  | .twoRegisterOr vx vy => .twoRegister .or vx vy raw
  | .twoRegisterAnd vx vy => .twoRegister .and vx vy raw
  | .twoRegisterXor vx vy => .twoRegister .xor vx vy raw
  | .twoRegisterAdd vx vy => .twoRegister .add vx vy raw
  | .twoRegisterSub vx vy => .twoRegister .sub vx vy raw
  | .singleRegisterShr register y => .singleRegister .shr register (shiftYField c y) raw
  | .twoRegisterSubn vx vy => .twoRegister .subn vx vy raw
  | .singleRegisterShl register y => .singleRegister .shl register (shiftYField c y) raw
  | .twoRegisterSne vx vy => .twoRegister .sne vx vy raw
  | .addressArgLd address => .addressArg .ld address raw
  | .addressArgJpadd address => .addressArg .jpadd address raw
  | .registerByteRnd register byte => .registerByte .rnd register byte raw
  | .draw vx vy n => .draw vx vy n raw
  | .singleRegisterSkp register => .singleRegister .skp register none raw
  | .singleRegisterSknp register => .singleRegister .sknp register none raw
  | .singleRegisterDt2r register => .singleRegister .dt2r register none raw
  | .singleRegisterLdk register => .singleRegister .ldk register none raw
  | .singleRegisterR2dt register => .singleRegister .r2dt register none raw
  | .singleRegisterR2st register => .singleRegister .r2st register none raw
  | .singleRegisterAdd register => .singleRegister .add register none raw
  | .singleRegisterLdf register => .singleRegister .ldf register none raw
  | .singleRegisterBcd register => .singleRegister .bcd register none raw
  | .singleRegisterRmem register => .singleRegister .rmem register none raw
  | .singleRegisterMemr register => .singleRegister .memr register none raw

/-- `decode(o)` of 30_encoding R54 at the level of records: one instruction record or the decode failure. -/
def decodeResult (c : Config) (o : Opcode) : Result :=
  match decode o with
  | .ok i => .instruction (recordOf c (hex4 o) i)
  | .error f => .decodeFailure f.raw

/-- The ports of an instruction record (10_state R33): its codes, its fields on their ports, the rest 0, its `raw`. -/
def portsOfRecord (r : InstrRecord) : Ports :=
  match r with
  | .noArg tag raw => portsNoArg (noArgOp tag) raw.toPort
  | .addressArg tag address raw => portsAddressArg (addressArgOp tag) address raw.toPort
  | .registerByte tag register byte raw => portsRegisterByte (registerByteOp tag) register byte raw.toPort
  | .twoRegister tag vx vy raw => portsTwoRegister (twoRegisterOp tag) vx vy raw.toPort
  | .singleRegister tag register shiftY raw =>
    portsSingleRegister (singleRegisterOp tag) register (shiftY.getD 0#4) raw.toPort
  | .draw vx vy n raw => portsDraw vx vy n raw.toPort

/-- The ports of a result (10_state R33). -/
def portsOfResult (r : Result) : Ports :=
  match r with
  | .instruction record => portsOfRecord record
  | .decodeFailure raw => portsFailure raw.toPort

/-- The record that `op_o`, the field ports and `raw_o` give (R33: "`op_o` tells variant and tag, the field ports give the
fields, `raw_o` gives `raw`"). -/
def recordOfPorts (c : Config) (p : Ports) : Option InstrRecord :=
  let raw := rawOfPort p.raw_o
  match p.op_o with
  | 1#6 => some (.noArg .cls raw)
  | 2#6 => some (.noArg .ret raw)
  | 3#6 => some (.addressArg .sys p.nnn_o raw)
  | 4#6 => some (.addressArg .jp p.nnn_o raw)
  | 5#6 => some (.addressArg .call p.nnn_o raw)
  | 6#6 => some (.registerByte .se p.x_o p.kk_o raw)
  | 7#6 => some (.registerByte .sne p.x_o p.kk_o raw)
  | 8#6 => some (.twoRegister .se p.x_o p.y_o raw)
  | 9#6 => some (.registerByte .ld p.x_o p.kk_o raw)
  | 10#6 => some (.registerByte .add p.x_o p.kk_o raw)
  | 11#6 => some (.twoRegister .ld p.x_o p.y_o raw)
  | 12#6 => some (.twoRegister .or p.x_o p.y_o raw)
  | 13#6 => some (.twoRegister .and p.x_o p.y_o raw)
  | 14#6 => some (.twoRegister .xor p.x_o p.y_o raw)
  | 15#6 => some (.twoRegister .add p.x_o p.y_o raw)
  | 16#6 => some (.twoRegister .sub p.x_o p.y_o raw)
  | 17#6 => some (.singleRegister .shr p.x_o (shiftYField c p.y_o) raw)
  | 18#6 => some (.twoRegister .subn p.x_o p.y_o raw)
  | 19#6 => some (.singleRegister .shl p.x_o (shiftYField c p.y_o) raw)
  | 20#6 => some (.twoRegister .sne p.x_o p.y_o raw)
  | 21#6 => some (.addressArg .ld p.nnn_o raw)
  | 22#6 => some (.addressArg .jpadd p.nnn_o raw)
  | 23#6 => some (.registerByte .rnd p.x_o p.kk_o raw)
  | 24#6 => some (.draw p.x_o p.y_o p.n_o raw)
  | 25#6 => some (.singleRegister .skp p.x_o none raw)
  | 26#6 => some (.singleRegister .sknp p.x_o none raw)
  | 27#6 => some (.singleRegister .dt2r p.x_o none raw)
  | 28#6 => some (.singleRegister .ldk p.x_o none raw)
  | 29#6 => some (.singleRegister .r2dt p.x_o none raw)
  | 30#6 => some (.singleRegister .r2st p.x_o none raw)
  | 31#6 => some (.singleRegister .add p.x_o none raw)
  | 32#6 => some (.singleRegister .ldf p.x_o none raw)
  | 33#6 => some (.singleRegister .bcd p.x_o none raw)
  | 34#6 => some (.singleRegister .rmem p.x_o none raw)
  | 35#6 => some (.singleRegister .memr p.x_o none raw)
  | _ => none

/-- The abstract result read back from the ports (R33: "`valid_o` tells which case"). -/
def resultOfPorts (c : Config) (p : Ports) : Option Result :=
  if p.valid_o = 1#1 then (recordOfPorts c p).map .instruction else some (.decodeFailure (rawOfPort p.raw_o))

/-- The abstract result that the outputs of a state show. -/
def State.result (s : State) : Option Result := resultOfPorts s.config s.out

/-- The `raw` of a result (10_state R25, R27). -/
def rawOfResult (r : Result) : Raw :=
  match r with
  | .instruction (.noArg _ raw) => raw
  | .instruction (.addressArg _ _ raw) => raw
  | .instruction (.registerByte _ _ _ raw) => raw
  | .instruction (.twoRegister _ _ _ raw) => raw
  | .instruction (.singleRegister _ _ _ raw) => raw
  | .instruction (.draw _ _ _ raw) => raw
  | .decodeFailure raw => raw

end Sys2Proof.Machine
end

