-- ==== Sys2Proof/Machine/Caller.lean ====
section
/-! DEFINITION. A caller beside the machine, as 70_reset_and_hazards R219 leaves it to a model to define: it takes a byte
string two bytes at a time, high byte first (20_memory R42), presents each word and collects what the outputs show. The
block knows nothing of it; it is no part of State. -/

namespace Sys2Proof.Machine

/-- The successive opcodes of a byte string; an odd last byte is no opcode (95 program P6; log entry 9). -/
def opcodesOf (bytes : List Byte) : List Opcode :=
  match bytes with
  | b0 :: b1 :: rest => assemble b0 b1 :: opcodesOf rest
  | _ => []

/-- The scan of a program: the list of results, one per word, in order, going on after a failure (R186, R219). -/
def scan (c : Config) (bytes : List Byte) : List Result := (opcodesOf bytes).map (decodeResult c)

/-- The machine driven by a caller: each opcode presented in turn, one evaluation each, the outputs read after each. -/
def observe (words : List Opcode) (s : State) : List Ports :=
  match words with
  | [] => []
  | o :: rest =>
    match step (s.present o) with
    | .next t => t.out :: observe rest t
    | .fault _ => []
    | .refused _ => []

end Sys2Proof.Machine
end

