-- ==== Sys2Proof/Machine/Validator.lean ====
section
/-! DEFINITION. The instruction validator (49_instruction_validator): the checks, and the validity predicate in closed form.
It is written from R176 to R180, apart from the decoder; that the two agree is a statement, not a definition. -/

namespace Sys2Proof

/-- The bounds check, the one numeric threshold: `nnn >= SYS_MIN_ADDR` (R177). -/
def boundsCheck (o : Opcode) : Bool := decide (sysMinAddr ≤ fieldNnn o)

/-- The zero-nibble check of groups 5 and 9 (R178). -/
def zeroNibbleCheck (o : Opcode) : Bool := fieldN o == 0x0#4

/-- The two exact values of group 0 below the threshold (R179). -/
def group0Values : List Address := [0x0E0#12, 0x0EE#12]

/-- The nine legal low nibbles of group 8 (R179). -/
def group8Nibbles : List Nibble := [0x0#4, 0x1#4, 0x2#4, 0x3#4, 0x4#4, 0x5#4, 0x6#4, 0x7#4, 0xE#4]

/-- The two legal low bytes of group E (R179). -/
def groupEBytes : List Byte := [0x9E#8, 0xA1#8]

/-- The nine legal low bytes of group F (R179). -/
def groupFBytes : List Byte := [0x07#8, 0x0A#8, 0x15#8, 0x18#8, 0x1E#8, 0x29#8, 0x33#8, 0x55#8, 0x65#8]

/-- The ten groups that accept every word (R180). -/
def uncheckedGroups : List Nibble := [0x1#4, 0x2#4, 0x3#4, 0x4#4, 0x6#4, 0x7#4, 0xA#4, 0xB#4, 0xC#4, 0xD#4]

/-- `valid(o)` in the closed form of R176, line for line. -/
def valid (o : Opcode) : Bool :=
  (fieldG o == 0x0#4 && (boundsCheck o || group0Values.contains (fieldNnn o)))
    || uncheckedGroups.contains (fieldG o)
    || ((fieldG o == 0x5#4 || fieldG o == 0x9#4) && zeroNibbleCheck o)
    || (fieldG o == 0x8#4 && group8Nibbles.contains (fieldN o))
    || (fieldG o == 0xE#4 && groupEBytes.contains (fieldKk o))
    || (fieldG o == 0xF#4 && groupFBytes.contains (fieldKk o))

/-- The sixteen hexadecimal digits. -/
def allNibbles : List Nibble :=
  [0x0#4, 0x1#4, 0x2#4, 0x3#4, 0x4#4, 0x5#4, 0x6#4, 0x7#4, 0x8#4, 0x9#4, 0xA#4, 0xB#4, 0xC#4, 0xD#4, 0xE#4, 0xF#4]

/-- How many of the 4,096 words of a primary group the validator accepts, counted digit by digit. -/
def countLegal (g : Nibble) : Nat :=
  (allNibbles.map (fun x =>
    (allNibbles.map (fun y => allNibbles.countP (fun n => valid (g ++ x ++ y ++ n)))).sum)).sum

end Sys2Proof
end

