-- ==== Sys2Proof/Safety.lean ====
section
/-! DEFINITION. What counts as a sound evaluation: what it answers, and the properties every output vector has
(10_state R31; 49_instruction_validator R181, R182, R184). -/

namespace Sys2Proof.Machine

/-- One evaluation of `s` hands its caller the result `r`: the step completes, the parameter and the input stay as they were,
and the ports it leaves read as `r` (10_state R33). -/
def Evaluates (s : State) (r : Result) : Prop :=
  ∃ t, step s = .next t ∧ t.config = s.config ∧ t.opcode_i = s.opcode_i ∧ t.result = some r

/-- The outputs are those of the opcode at the input (10_state R28, R39): the state of a settled circuit. -/
def Settled (s : State) : Prop := s.out = portsOfResult (decodeResult s.config s.opcode_i)

/-- The field ports of an instruction that are not fields of its variant are 0; `y_o` of the two shifts may be non-zero only
when `SHIFT_RETAIN_Y` is true (10_state R31; 44_group_8 R129). -/
def unusedPortsZero (c : Config) (v : Variant) (p : Ports) : Bool :=
  match v with
  | .noArg => p.x_o == 0#4 && p.y_o == 0#4 && p.n_o == 0#4 && p.kk_o == 0#8 && p.nnn_o == 0#12
  | .addressArg => p.x_o == 0#4 && p.y_o == 0#4 && p.n_o == 0#4 && p.kk_o == 0#8
  | .registerByte => p.y_o == 0#4 && p.n_o == 0#4 && p.nnn_o == 0#12
  | .twoRegister => p.n_o == 0#4 && p.kk_o == 0#8 && p.nnn_o == 0#12
  | .singleRegister =>
    (p.y_o == 0#4 || (c.shiftRetainY && isShiftOp p.op_o)) && p.n_o == 0#4 && p.kk_o == 0#8 && p.nnn_o == 0#12
  | .draw => p.kk_o == 0#8 && p.nnn_o == 0#12

/-- An output vector the block may show. On failure everything but `raw_o` is 0 (R31). On success `op_o` is an instruction id,
`variant_o` is the code of that id's variant (R30, R184), the ports its variant does not use are 0 (R31) and a SYS address is
at least 0x200 (R181). Always, each byte of `raw_o` is a hexadecimal digit's code (R182). -/
def portsCoherent (c : Config) (p : Ports) : Bool :=
  rawPortIsHex p.raw_o
    && (if p.valid_o = 1#1 then
          match variantOfOp p.op_o with
          | none => false
          | some v => p.variant_o == variantCode v && unusedPortsZero c v p && (p.op_o != 3#6 || decide (sysMinAddr ≤ p.nnn_o))
        else decide (p = portsFailure p.raw_o))

/-- A state whose outputs the block may show. -/
def State.coherent (s : State) : Bool := portsCoherent s.config s.out

end Sys2Proof.Machine
end

