-- ==== Sys2Proof/Certificates/Slice0/Obligations.lean ====
section
/-! DEFINITION. The statements for the provers. Those about a record or the failure are read through the ports
(`State.result`, 10_state R33); the port numbers themselves are the spec's own decisions (92_eei_decisions D2 to D6, D9),
so a statement about a port number has basis 'derived'. -/

namespace Sys2Proof.Machine

/-- The next state in which the outputs show an instruction of variant `variant` with id `op` and these field ports, `raw_o`
spells `hex4` of the presented opcode, and the parameter and the input are as before. -/
def shows (s : State) (variant : BitVec 3) (op : BitVec 6) (x y n : BitVec 4) (kk : BitVec 8) (nnn : BitVec 12) : Answer :=
  .next { config := s.config, opcode_i := s.opcode_i
          out := { valid_o := 1#1, variant_o := variant, op_o := op, x_o := x, y_o := y, n_o := n, kk_o := kk, nnn_o := nnn,
                   raw_o := (hex4 s.opcode_i).toPort } }

/-- The next state in which the outputs show the decode failure of the presented opcode. -/
def showsFailure (s : State) : Answer :=
  .next { config := s.config, opcode_i := s.opcode_i
          out := { valid_o := 0#1, variant_o := 0#3, op_o := 0#6, x_o := 0#4, y_o := 0#4, n_o := 0#4, kk_o := 0#8, nnn_o := 0#12,
                   raw_o := (hex4 s.opcode_i).toPort } }

/-- The fields of a record are the digits its `raw` spells (49_instruction_validator R183). -/
def fieldsAreDigits (r : InstrRecord) : Prop :=
  match r with
  | .noArg _ _ => True
  | .addressArg _ a raw =>
    hexDigit (a.extractLsb' 8 4) = raw.c2 ∧ hexDigit (a.extractLsb' 4 4) = raw.c1 ∧ hexDigit (a.extractLsb' 0 4) = raw.c0
  | .registerByte _ x kk raw =>
    hexDigit x = raw.c2 ∧ hexDigit (kk.extractLsb' 4 4) = raw.c1 ∧ hexDigit (kk.extractLsb' 0 4) = raw.c0
  | .twoRegister _ x y raw => hexDigit x = raw.c2 ∧ hexDigit y = raw.c1
  | .singleRegister _ x sy raw => hexDigit x = raw.c2 ∧ ∀ y, sy = some y → hexDigit y = raw.c1
  | .draw x y n raw => hexDigit x = raw.c2 ∧ hexDigit y = raw.c1 ∧ hexDigit n = raw.c0

end Sys2Proof.Machine

open Sys2Proof Sys2Proof.Machine

/-! ## The machine as a whole -/

/-- The state after reset: the parameter at its default (00_scope R10) and the outputs at the evaluation of whatever the input
holds (10_state R39). That the input holds 0x0000 is the model's choice (log entry 3) and is not stated. -/
def Obligations.ResetIsSettledAtTheDefaultParameter : Prop :=
  State.reset.config.shiftRetainY = false ∧ Settled State.reset ∧ State.reset.coherent = true

/-- A step at an opcode that decodes to an instruction is that instruction's meaning; at any other it is the decode failure.
Nothing is added around it: there is no program counter to move (10_state R35). -/
def Obligations.StepRunsTheDecodedInstruction : Prop :=
  ∀ s : State,
    (∀ i, decode s.opcode_i = .ok i → step s = exec i s) ∧
    (∀ f, decode s.opcode_i = .error f → step s = takeDecodeFailure s)

/-- Words written out from the patterns of 30_encoding R62, at least one of every family, decode to what they stand for. -/
def Obligations.WordsOfEveryFamilyDecode : Prop :=
  decode 0b0000000011100000#16 = .ok .noArgCls ∧
  decode 0b0000000011101110#16 = .ok .noArgRet ∧
  decode 0b0000101010111100#16 = .ok (.addressArgSys 0xABC#12) ∧
  decode 0b0001111000110010#16 = .ok (.addressArgJp 0xE32#12) ∧
  decode 0b0110110000101011#16 = .ok (.registerByteLd 0xC#4 0x2B#8) ∧
  decode 0b0101001111110000#16 = .ok (.twoRegisterSe 0x3#4 0xF#4) ∧
  decode 0b1000110111100111#16 = .ok (.twoRegisterSubn 0xD#4 0xE#4) ∧
  decode 0b1000001011110110#16 = .ok (.singleRegisterShr 0x2#4 0xF#4) ∧
  decode 0b1101010110001010#16 = .ok (.draw 0x5#4 0x8#4 0xA#4) ∧
  decode 0b1110011110100001#16 = .ok (.singleRegisterSknp 0x7#4) ∧
  decode 0b1111100000110011#16 = .ok (.singleRegisterBcd 0x8#4) ∧
  decode 0b0101001011000001#16 = .error { raw := { c3 := '5', c2 := '2', c1 := 'C', c0 := '1' } }

/-! ## What each instruction puts on the ports (each is also where the instruction completes, and its frame) -/

/-- `NoArg.CLS` and `NoArg.RET` (40_group_0, the clauses "Ports"). -/
def Obligations.NoArgInstructionsDriveTheirPorts : Prop :=
  ∀ s : State,
    exec .noArgCls s = shows s 1#3 1#6 0#4 0#4 0#4 0#8 0#12 ∧
    exec .noArgRet s = shows s 1#3 2#6 0#4 0#4 0#4 0#8 0#12

/-- The five AddressArg instructions (40_group_0 and 41_address_arg, the clauses "Ports"): nothing is added to the address,
nothing is compared. A SYS with an address below `SYS_MIN_ADDR` is no instruction (49_instruction_validator R181). -/
def Obligations.AddressArgInstructionsDriveTheirPorts : Prop :=
  ∀ (s : State) (address : Address),
    (sysMinAddr ≤ address → exec (.addressArgSys address) s = shows s 2#3 3#6 0#4 0#4 0#4 0#8 address) ∧
    exec (.addressArgJp address) s = shows s 2#3 4#6 0#4 0#4 0#4 0#8 address ∧
    exec (.addressArgCall address) s = shows s 2#3 5#6 0#4 0#4 0#4 0#8 address ∧
    exec (.addressArgLd address) s = shows s 2#3 21#6 0#4 0#4 0#4 0#8 address ∧
    exec (.addressArgJpadd address) s = shows s 2#3 22#6 0#4 0#4 0#4 0#8 address

/-- The five RegisterByte instructions (42_register_byte, the clauses "Ports"). -/
def Obligations.RegisterByteInstructionsDriveTheirPorts : Prop :=
  ∀ (s : State) (x : RegIndex) (kk : Byte),
    exec (.registerByteSe x kk) s = shows s 3#3 6#6 x 0#4 0#4 kk 0#12 ∧
    exec (.registerByteSne x kk) s = shows s 3#3 7#6 x 0#4 0#4 kk 0#12 ∧
    exec (.registerByteLd x kk) s = shows s 3#3 9#6 x 0#4 0#4 kk 0#12 ∧
    exec (.registerByteAdd x kk) s = shows s 3#3 10#6 x 0#4 0#4 kk 0#12 ∧
    exec (.registerByteRnd x kk) s = shows s 3#3 23#6 x 0#4 0#4 kk 0#12

/-- The nine TwoRegister instructions (43_register_pair_compare and 44_group_8, the clauses "Ports"): `n_o` is 0, for the low
nibble is a selector. -/
def Obligations.TwoRegisterInstructionsDriveTheirPorts : Prop :=
  ∀ (s : State) (x y : RegIndex),
    exec (.twoRegisterSe x y) s = shows s 4#3 8#6 x y 0#4 0#8 0#12 ∧
    exec (.twoRegisterLd x y) s = shows s 4#3 11#6 x y 0#4 0#8 0#12 ∧
    exec (.twoRegisterOr x y) s = shows s 4#3 12#6 x y 0#4 0#8 0#12 ∧
    exec (.twoRegisterAnd x y) s = shows s 4#3 13#6 x y 0#4 0#8 0#12 ∧
    exec (.twoRegisterXor x y) s = shows s 4#3 14#6 x y 0#4 0#8 0#12 ∧
    exec (.twoRegisterAdd x y) s = shows s 4#3 15#6 x y 0#4 0#8 0#12 ∧
    exec (.twoRegisterSub x y) s = shows s 4#3 16#6 x y 0#4 0#8 0#12 ∧
    exec (.twoRegisterSubn x y) s = shows s 4#3 18#6 x y 0#4 0#8 0#12 ∧
    exec (.twoRegisterSne x y) s = shows s 4#3 20#6 x y 0#4 0#8 0#12

/-- The two shifts (44_group_8, the clauses "Ports" and R129): `y_o` is the second nibble when `SHIFT_RETAIN_Y` is true and 0
when it is false. What `true` does is the spec's own choice (decision D8). -/
def Obligations.ShiftInstructionsDriveTheirPorts : Prop :=
  ∀ (s : State) (x y : RegIndex),
    (s.config.shiftRetainY = false →
      exec (.singleRegisterShr x y) s = shows s 5#3 17#6 x 0#4 0#4 0#8 0#12 ∧
      exec (.singleRegisterShl x y) s = shows s 5#3 19#6 x 0#4 0#4 0#8 0#12) ∧
    (s.config.shiftRetainY = true →
      exec (.singleRegisterShr x y) s = shows s 5#3 17#6 x y 0#4 0#8 0#12 ∧
      exec (.singleRegisterShl x y) s = shows s 5#3 19#6 x y 0#4 0#8 0#12)

/-- The two key instructions (46_group_E, the clauses "Ports"): `kk_o` is 0, for the low byte is a selector. -/
def Obligations.GroupEInstructionsDriveTheirPorts : Prop :=
  ∀ (s : State) (x : RegIndex),
    exec (.singleRegisterSkp x) s = shows s 5#3 25#6 x 0#4 0#4 0#8 0#12 ∧
    exec (.singleRegisterSknp x) s = shows s 5#3 26#6 x 0#4 0#4 0#8 0#12

/-- The nine group-F instructions (47_group_F, R150's last sentence and the clauses "Ports"); LDK does not wait. -/
def Obligations.GroupFInstructionsDriveTheirPorts : Prop :=
  ∀ (s : State) (x : RegIndex),
    exec (.singleRegisterDt2r x) s = shows s 5#3 27#6 x 0#4 0#4 0#8 0#12 ∧
    exec (.singleRegisterLdk x) s = shows s 5#3 28#6 x 0#4 0#4 0#8 0#12 ∧
    exec (.singleRegisterR2dt x) s = shows s 5#3 29#6 x 0#4 0#4 0#8 0#12 ∧
    exec (.singleRegisterR2st x) s = shows s 5#3 30#6 x 0#4 0#4 0#8 0#12 ∧
    exec (.singleRegisterAdd x) s = shows s 5#3 31#6 x 0#4 0#4 0#8 0#12 ∧
    exec (.singleRegisterLdf x) s = shows s 5#3 32#6 x 0#4 0#4 0#8 0#12 ∧
    exec (.singleRegisterBcd x) s = shows s 5#3 33#6 x 0#4 0#4 0#8 0#12 ∧
    exec (.singleRegisterRmem x) s = shows s 5#3 34#6 x 0#4 0#4 0#8 0#12 ∧
    exec (.singleRegisterMemr x) s = shows s 5#3 35#6 x 0#4 0#4 0#8 0#12

/-- `Draw` (45_draw, the clause "Ports"): the only instruction whose low nibble reaches `n_o`. -/
def Obligations.DrawDrivesItsPorts : Prop :=
  ∀ (s : State) (x y : RegIndex) (n : Nibble), exec (.draw x y n) s = shows s 6#3 24#6 x y n 0#8 0#12

/-- The decode failure (60_exceptions R192): taken by a step exactly at an opcode that decodes to no instruction; every output
0 but `raw_o`, nothing saved, nothing else changed (R196). -/
def Obligations.DecodeFailureDrivesZerosAndRaw : Prop :=
  ∀ s : State,
    takeDecodeFailure s = showsFailure s ∧
    (∀ f, decode s.opcode_i = .error f → step s = showsFailure s) ∧
    (∀ i, decode s.opcode_i = .ok i → step s ≠ showsFailure s)

/-! ## The groups, from a presented opcode to the record its evaluation hands over -/

/-- Group 0 (40_group_0 R80): the threshold 0x200 inclusive and unsigned, then the two exact words, else the failure. -/
def Obligations.Group0SelectsByThresholdThenExactly : Prop :=
  ∀ s : State, fieldG s.opcode_i = 0x0#4 →
    (0x200#12 ≤ fieldNnn s.opcode_i →
      Evaluates s (.instruction (.addressArg .sys (fieldNnn s.opcode_i) (hex4 s.opcode_i)))) ∧
    (fieldNnn s.opcode_i = 0x0E0#12 → Evaluates s (.instruction (.noArg .cls (hex4 s.opcode_i)))) ∧
    (fieldNnn s.opcode_i = 0x0EE#12 → Evaluates s (.instruction (.noArg .ret (hex4 s.opcode_i)))) ∧
    (fieldNnn s.opcode_i < 0x200#12 → fieldNnn s.opcode_i ≠ 0x0E0#12 → fieldNnn s.opcode_i ≠ 0x0EE#12 →
      Evaluates s (.decodeFailure (hex4 s.opcode_i)))

/-- Groups 1, 2, A and B (41_address_arg R90): always an AddressArg record with the low 12 bits as they stand. -/
def Obligations.AddressGroupsAlwaysGiveTheLowTwelveBits : Prop :=
  ∀ s : State,
    (fieldG s.opcode_i = 0x1#4 →
      Evaluates s (.instruction (.addressArg .jp (fieldNnn s.opcode_i) (hex4 s.opcode_i)))) ∧
    (fieldG s.opcode_i = 0x2#4 →
      Evaluates s (.instruction (.addressArg .call (fieldNnn s.opcode_i) (hex4 s.opcode_i)))) ∧
    (fieldG s.opcode_i = 0xA#4 →
      Evaluates s (.instruction (.addressArg .ld (fieldNnn s.opcode_i) (hex4 s.opcode_i)))) ∧
    (fieldG s.opcode_i = 0xB#4 →
      Evaluates s (.instruction (.addressArg .jpadd (fieldNnn s.opcode_i) (hex4 s.opcode_i))))

/-- Groups 3, 4, 6, 7 and C (42_register_byte R100): always a RegisterByte record, register bits 8 to 11, byte bits 0 to 7. -/
def Obligations.RegisterByteGroupsAlwaysGiveRegisterAndByte : Prop :=
  ∀ s : State,
    (fieldG s.opcode_i = 0x3#4 →
      Evaluates s (.instruction (.registerByte .se (fieldX s.opcode_i) (fieldKk s.opcode_i) (hex4 s.opcode_i)))) ∧
    (fieldG s.opcode_i = 0x4#4 →
      Evaluates s (.instruction (.registerByte .sne (fieldX s.opcode_i) (fieldKk s.opcode_i) (hex4 s.opcode_i)))) ∧
    (fieldG s.opcode_i = 0x6#4 →
      Evaluates s (.instruction (.registerByte .ld (fieldX s.opcode_i) (fieldKk s.opcode_i) (hex4 s.opcode_i)))) ∧
    (fieldG s.opcode_i = 0x7#4 →
      Evaluates s (.instruction (.registerByte .add (fieldX s.opcode_i) (fieldKk s.opcode_i) (hex4 s.opcode_i)))) ∧
    (fieldG s.opcode_i = 0xC#4 →
      Evaluates s (.instruction (.registerByte .rnd (fieldX s.opcode_i) (fieldKk s.opcode_i) (hex4 s.opcode_i))))

/-- Groups 5 and 9 (43_register_pair_compare R110): a TwoRegister record when the low nibble is 0, else the failure. -/
def Obligations.PairCompareGroupsNeedAZeroLowNibble : Prop :=
  ∀ s : State,
    (fieldG s.opcode_i = 0x5#4 →
      (fieldN s.opcode_i = 0x0#4 →
        Evaluates s (.instruction (.twoRegister .se (fieldX s.opcode_i) (fieldY s.opcode_i) (hex4 s.opcode_i)))) ∧
      (fieldN s.opcode_i ≠ 0x0#4 → Evaluates s (.decodeFailure (hex4 s.opcode_i)))) ∧
    (fieldG s.opcode_i = 0x9#4 →
      (fieldN s.opcode_i = 0x0#4 →
        Evaluates s (.instruction (.twoRegister .sne (fieldX s.opcode_i) (fieldY s.opcode_i) (hex4 s.opcode_i)))) ∧
      (fieldN s.opcode_i ≠ 0x0#4 → Evaluates s (.decodeFailure (hex4 s.opcode_i))))

/-- Group 8 (44_group_8 R120), with the second register of the shifts discarded as at `SHIFT_RETAIN_Y = false`. For the value
true see `ShiftRetainYAddsOnlyTheSecondNibble`. -/
def Obligations.Group8SelectsByLowNibble : Prop :=
  ∀ s : State, fieldG s.opcode_i = 0x8#4 →
    let o := s.opcode_i
    let two := fun tag => Evaluates s (.instruction (.twoRegister tag (fieldX o) (fieldY o) (hex4 o)))
    let one := fun tag => Evaluates s (.instruction (.singleRegister tag (fieldX o) none (hex4 o)))
    (fieldN o = 0x0#4 → two .ld) ∧ (fieldN o = 0x1#4 → two .or) ∧ (fieldN o = 0x2#4 → two .and) ∧ (fieldN o = 0x3#4 → two .xor) ∧
    (fieldN o = 0x4#4 → two .add) ∧ (fieldN o = 0x5#4 → two .sub) ∧ (fieldN o = 0x7#4 → two .subn) ∧
    (s.config.shiftRetainY = false → (fieldN o = 0x6#4 → one .shr) ∧ (fieldN o = 0xE#4 → one .shl)) ∧
    (fieldN o ∈ [0x8#4, 0x9#4, 0xA#4, 0xB#4, 0xC#4, 0xD#4, 0xF#4] → Evaluates s (.decodeFailure (hex4 o)))

/-- Group D (45_draw R135): always Draw, height 0 among them. -/
def Obligations.GroupDAlwaysGivesDraw : Prop :=
  ∀ s : State, fieldG s.opcode_i = 0xD#4 →
    Evaluates s
      (.instruction (.draw (fieldX s.opcode_i) (fieldY s.opcode_i) (fieldN s.opcode_i) (hex4 s.opcode_i)))

/-- Group E (46_group_E R140): two low bytes, every other one the failure. -/
def Obligations.GroupESelectsByLowByte : Prop :=
  ∀ s : State, fieldG s.opcode_i = 0xE#4 →
    (fieldKk s.opcode_i = 0x9E#8 →
      Evaluates s (.instruction (.singleRegister .skp (fieldX s.opcode_i) none (hex4 s.opcode_i)))) ∧
    (fieldKk s.opcode_i = 0xA1#8 →
      Evaluates s (.instruction (.singleRegister .sknp (fieldX s.opcode_i) none (hex4 s.opcode_i)))) ∧
    (fieldKk s.opcode_i ≠ 0x9E#8 → fieldKk s.opcode_i ≠ 0xA1#8 → Evaluates s (.decodeFailure (hex4 s.opcode_i)))

/-- Group F (30_encoding R61): nine low bytes, every other one the failure. -/
def Obligations.GroupFSelectsByLowByteTable : Prop :=
  ∀ s : State, fieldG s.opcode_i = 0xF#4 →
    let o := s.opcode_i
    let one := fun tag => Evaluates s (.instruction (.singleRegister tag (fieldX o) none (hex4 o)))
    (fieldKk o = 0x07#8 → one .dt2r) ∧ (fieldKk o = 0x0A#8 → one .ldk) ∧ (fieldKk o = 0x15#8 → one .r2dt) ∧
    (fieldKk o = 0x18#8 → one .r2st) ∧ (fieldKk o = 0x1E#8 → one .add) ∧ (fieldKk o = 0x29#8 → one .ldf) ∧
    (fieldKk o = 0x33#8 → one .bcd) ∧ (fieldKk o = 0x55#8 → one .rmem) ∧ (fieldKk o = 0x65#8 → one .memr) ∧
    (fieldKk o ∉ [0x07#8, 0x0A#8, 0x15#8, 0x18#8, 0x1E#8, 0x29#8, 0x33#8, 0x55#8, 0x65#8] → Evaluates s (.decodeFailure (hex4 o)))

/-- `SHIFT_RETAIN_Y` (44_group_8 R129, decision D8): between the two builds the outputs differ in `y_o` of the two shifts alone,
which is the second nibble with `true` and 0 with `false`; the shift records gain the field and no other result changes. -/
def Obligations.ShiftRetainYAddsOnlyTheSecondNibble : Prop :=
  ∀ s : State, ∃ t u,
    step { s with config := { shiftRetainY := true } } = .next t ∧
    step { s with config := { shiftRetainY := false } } = .next u ∧
    (isShiftOp u.out.op_o = true →
      u.out.y_o = 0#4 ∧ t.out = { u.out with y_o := fieldY s.opcode_i } ∧
      ∃ tag x raw, u.result = some (.instruction (.singleRegister tag x none raw)) ∧
        t.result = some (.instruction (.singleRegister tag x (some (fieldY s.opcode_i)) raw))) ∧
    (isShiftOp u.out.op_o = false → t.out = u.out ∧ t.result = u.result)

/-! ## Every evaluation -/

/-- Exactly one result for every opcode, the same one whenever the same opcode is presented to the same build, and nothing but
the outputs touched (00_scope R3). `Result` is an instruction or a failure, never both. -/
def Obligations.EveryOpcodeHasExactlyOneResult : Prop :=
  (∀ s : State, ∃ r, Evaluates s r ∧ ∀ r', Evaluates s r' → r' = r) ∧
  (∀ s s' : State, s.config = s'.config → s.opcode_i = s'.opcode_i → ∀ r, Evaluates s r → Evaluates s' r)

/-- The step is total and changes the outputs alone: it never waits, stalls or hangs, at `Fx0A` as at every other word
(70_reset_and_hazards R215), and it leaves the parameter and the input as they were. -/
def Obligations.EveryStepCompletesAndChangesOnlyTheOutputs : Prop :=
  ∀ s : State, ∃ t, step s = .next t ∧ t.config = s.config ∧ t.opcode_i = s.opcode_i

/-- Every instruction, in every state, completes with its own record and changes nothing but the outputs (00_scope R6; 10_state
R22 to R25, R33). -/
def Obligations.EveryInstructionCompletesWithItsRecord : Prop :=
  ∀ (i : Instr) (s : State), i.wellFormed = true → ∃ t, exec i s = .next t ∧ t.config = s.config ∧ t.opcode_i = s.opcode_i ∧
    t.result = some (.instruction (recordOf s.config (hex4 s.opcode_i) i))

/-- No state across evaluations (10_state R20): the outcome depends on the presented opcode and the parameter and on nothing
else. The outputs an earlier evaluation left, failure or not, make no difference (60_exceptions R197). -/
def Obligations.StepDependsOnlyOnOpcodeAndParameter : Prop :=
  ∀ s s' : State, s.config = s'.config → s.opcode_i = s'.opcode_i → step s = step s'

/-- Evaluating again on the same opcode changes nothing (20_memory R44; 60_exceptions R198). -/
def Obligations.EvaluatingAgainChangesNothing : Prop :=
  ∀ s t : State, step s = .next t → step t = .next t

/-- Refinement: the step, built of decoder, dispatch and meanings, leaves exactly the ports of the abstract result of
30_encoding R54 (10_state R33). -/
def Obligations.StepRefinesTheAbstractDecode : Prop :=
  ∀ s : State, step s = .next { s with out := portsOfResult (decodeResult s.config s.opcode_i) }

/-- The invariant every step establishes from any state, reachable or not: the outputs are coherent (10_state R31;
49_instruction_validator R181, R182, R184) and settled on the presented opcode. -/
def Obligations.EveryStepLeavesCoherentSettledOutputs : Prop :=
  ∀ s t : State, step s = .next t → t.coherent = true ∧ Settled t

/-- A caller's whole run (20_memory R45, R46; 70_reset_and_hazards R219): whatever the machine showed before and in whatever
order the opcodes come, each observation is that opcode's own, and a failure does not end the run. -/
def Obligations.ObservationsDependOnEachOpcodeAlone : Prop :=
  ∀ (words : List Opcode) (s : State),
    observe words s = words.map (fun o => portsOfResult (decodeResult s.config o))

/-- The ports give the abstract result back (10_state R33). -/
def Obligations.PortsGiveTheResultBack : Prop :=
  ∀ (c : Config) (o : Opcode), resultOfPorts c (portsOfResult (decodeResult c o)) = some (decodeResult c o)

/-- All or nothing (49_instruction_validator R184), on the ports an evaluation leaves. -/
def Obligations.OutputsAreAllOrNothing : Prop :=
  ∀ s t : State, step s = .next t →
    (t.out.valid_o = 0#1 ↔ t.out.variant_o = 0#3) ∧
    (t.out.valid_o = 0#1 ↔ t.out.op_o = 0#6) ∧
    (t.out.valid_o = 1#1 ↔ (1#3 ≤ t.out.variant_o ∧ t.out.variant_o ≤ 6#3) ∧ (1#6 ≤ t.out.op_o ∧ t.out.op_o ≤ 35#6)) ∧
    (t.out.valid_o = 1#1 → (variantOfOp t.out.op_o).map variantCode = some t.out.variant_o)

/-! ## The raw form -/

/-- `raw_o` spells the presented opcode after every evaluation, legal or not, whatever `valid_o` is, and so does the `raw` of
the result, record or failure (48_raw_rendering R167). -/
def Obligations.RawIsDrivenForEveryOpcode : Prop :=
  ∀ s : State, ∃ t r, step s = .next t ∧ rawOfPort t.out.raw_o = hex4 s.opcode_i ∧
    t.result = some r ∧ rawOfResult r = hex4 s.opcode_i

/-- `raw` determines the opcode: the four characters read back as hexadecimal digits, and the four codes read back as
characters (48_raw_rendering R168). -/
def Obligations.RawReadsBackAsTheOpcode : Prop :=
  ∀ o : Opcode, unhex4 (hex4 o) = some o ∧ rawOfPort (rawPort o) = hex4 o ∧ rawPortIsHex (rawPort o) = true

/-- The fields of every record an evaluation hands over are the digits of its `raw`, and decoding the opcode that `raw` spells
gives the whole result again (49_instruction_validator R183). -/
def Obligations.FieldsAreTheDigitsOfRaw : Prop :=
  ∀ (s : State) (r : Result), Evaluates s r →
    (∀ record, r = .instruction record → fieldsAreDigits record) ∧
    (unhex4 (rawOfResult r)).map (decodeResult s.config) = some r

/-! ## The validator -/

/-- The closed form of `valid` (49_instruction_validator R176) is the decoder's own verdict, and it is the output `valid_o`. -/
def Obligations.ValidatorAgreesWithDecoder : Prop :=
  (∀ o : Opcode, valid o = true ↔ ∃ i, decode o = .ok i) ∧
  (∀ s t : State, step s = .next t → (t.out.valid_o = 1#1 ↔ valid s.opcode_i = true))

/-- The illegal words, group by group (30_encoding R64 to R68), and what they give: the failure with their own raw form (R63). -/
def Obligations.IllegalWordsAreExactlyTheListed : Prop :=
  ∀ o : Opcode,
    decode o = .error { raw := hex4 o } ↔
      (fieldG o = 0x0#4 ∧ fieldNnn o < 0x200#12 ∧ fieldNnn o ≠ 0x0E0#12 ∧ fieldNnn o ≠ 0x0EE#12) ∨
      ((fieldG o = 0x5#4 ∨ fieldG o = 0x9#4) ∧ fieldN o ≠ 0x0#4) ∨
      (fieldG o = 0x8#4 ∧ fieldN o ∈ [0x8#4, 0x9#4, 0xA#4, 0xB#4, 0xC#4, 0xD#4, 0xF#4]) ∨
      (fieldG o = 0xE#4 ∧ fieldKk o ≠ 0x9E#8 ∧ fieldKk o ≠ 0xA1#8) ∨
      (fieldG o = 0xF#4 ∧ fieldKk o ∉ [0x07#8, 0x0A#8, 0x15#8, 0x18#8, 0x1E#8, 0x29#8, 0x33#8, 0x55#8, 0x65#8])

/-- How many of the 4,096 words of each primary group are legal, and 47,538 in all (30_encoding R69). -/
def Obligations.LegalWordsAreCounted : Prop :=
  countLegal 0x0#4 = 3586 ∧ countLegal 0x5#4 = 256 ∧ countLegal 0x8#4 = 2304 ∧ countLegal 0x9#4 = 256 ∧
  countLegal 0xE#4 = 32 ∧ countLegal 0xF#4 = 144 ∧
  (∀ g ∈ uncheckedGroups, countLegal g = 4096) ∧
  (allNibbles.map countLegal).sum = 47538

/-! ## The encoding -/

/-- The six extractors (30_encoding R53), as shifts and masks of the opcode and as parts of one another. -/
def Obligations.ExtractorsAreShiftsAndMasks : Prop :=
  ∀ o : Opcode,
    (fieldG o).toNat = o.toNat / 2 ^ 12 % 16 ∧ (fieldX o).toNat = o.toNat / 2 ^ 8 % 16 ∧
    (fieldY o).toNat = o.toNat / 2 ^ 4 % 16 ∧ (fieldN o).toNat = o.toNat % 16 ∧
    (fieldKk o).toNat = o.toNat % 2 ^ 8 ∧ (fieldNnn o).toNat = o.toNat % 2 ^ 12 ∧
    fieldNnn o = fieldX o ++ fieldY o ++ fieldN o ∧ fieldNnn o = fieldX o ++ fieldKk o ∧ fieldKk o = fieldY o ++ fieldN o

/-- The threshold of group 0 as a bit test (30_encoding R56, an inference the spec marks as its own). -/
def Obligations.ThresholdIsABitTest : Prop :=
  ∀ o : Opcode, sysMinAddr ≤ fieldNnn o ↔ o.extractLsb' 9 3 ≠ 0#3

/-- The instruction list (30_encoding R62): 35 rows, no opcode in two of them, an opcode in a row exactly when it decodes to
that row's instruction, and an opcode in none illegal. -/
def Obligations.InstructionListSelectsTheDecodedRow : Prop :=
  opcodeRows.length = 35 ∧
  (∀ o : Opcode, ∀ r ∈ opcodeRows, r.accepts o = true ↔ ∃ i, decode o = .ok i ∧ opId i = r.id ∧ instrName i = r.name) ∧
  (∀ o : Opcode, ∀ r ∈ opcodeRows, ∀ r' ∈ opcodeRows, r.accepts o = true → r'.accepts o = true → r = r') ∧
  (∀ o : Opcode, (∀ r ∈ opcodeRows, r.accepts o = false) → decode o = .error { raw := hex4 o })

/-- Decode of encode: no bit of any instruction's encoding is dropped, with every operand at every value. -/
def Obligations.DecodeOfEncodeIsTheInstruction : Prop :=
  ∀ i : Instr, i.wellFormed = true → decode (encode i) = .ok i

/-- Encode of decode: every legal word has one meaning and is the word of it; what the decoder gives is well formed. -/
def Obligations.EncodeOfDecodeIsTheWord : Prop :=
  ∀ (o : Opcode) (i : Instr), decode o = .ok i → encode i = o ∧ i.wellFormed = true

/-- Injective but for the discarded nibble (49_instruction_validator R185 (k), an inference the spec marks as its own): two
different legal opcodes whose records agree in everything but `raw` are both `8x?6` or both `8x?E` with the same `x`. -/
def Obligations.OnlyTheDiscardedNibbleIsLost : Prop :=
  ∀ (o o' : Opcode) (i i' : Instr) (raw : Raw), decode o = .ok i → decode o' = .ok i' → o ≠ o' →
    recordOf { shiftRetainY := false } raw i = recordOf { shiftRetainY := false } raw i' →
    fieldG o = 0x8#4 ∧ fieldG o' = 0x8#4 ∧ fieldX o = fieldX o' ∧ fieldN o = fieldN o' ∧ (fieldN o = 0x6#4 ∨ fieldN o = 0xE#4)

/-! ## The caller's side -/

/-- Byte order (20_memory R42): the first byte is the high byte, so the group and the first register field come from it and the
byte immediate is the second; a byte string is decoded so. -/
def Obligations.FirstByteIsTheHighByte : Prop :=
  ∀ b0 b1 : Byte,
    (assemble b0 b1).extractLsb' 8 8 = b0 ∧ (assemble b0 b1).extractLsb' 0 8 = b1 ∧
    fieldG (assemble b0 b1) = b0.extractLsb' 4 4 ∧ fieldX (assemble b0 b1) = b0.extractLsb' 0 4 ∧
    fieldKk (assemble b0 b1) = b1 ∧
    ∀ rest,
      (∀ i, decode (assemble b0 b1) = .ok i → decodeBytes (b0 :: b1 :: rest) = .ok (i, rest)) ∧
      (∀ f, decode (assemble b0 b1) = .error f → decodeBytes (b0 :: b1 :: rest) = .error (.decodeFailure f.raw))

/-- A scan (49_instruction_validator R186; 70_reset_and_hazards R219) gives one result for every two bytes, and the scan of two
even-length strings one after the other is the two scans one after the other: a failure in the first does not touch the second. -/
def Obligations.ScanTakesTwoBytesPerResult : Prop :=
  (∀ (c : Config) (bytes : List Byte), (scan c bytes).length = bytes.length / 2) ∧
  (∀ (c : Config) (a b : List Byte), a.length % 2 = 0 → scan c (a ++ b) = scan c a ++ scan c b)

/-! ## The outputs at any moment -/

/-- The outputs follow the input at once (10_state R28, decision D1; 70_reset_and_hazards R211): presenting an opcode, from any
state, leaves the port vector of that opcode on the outputs and the parameter as it was, and a step then changes nothing. -/
def Obligations.OutputsFollowThePresentedInput : Prop :=
  ∀ (s : State) (o : Opcode),
    (s.present o).opcode_i = o ∧ (s.present o).config = s.config ∧
    (s.present o).out = portsOfResult (decodeResult s.config o) ∧
    step (s.present o) = .next (s.present o)

/-- The settled states are exactly those in which a step changes nothing: the outputs move only when the input does. -/
def Obligations.SettledIsExactlyWhereAStepChangesNothing : Prop :=
  ∀ s : State, Settled s ↔ step s = .next s

/-- Whatever a caller presents from reset on, the outputs are at every moment the function of the input at that moment
(10_state R28, decision D1): no reached state holds the outputs of an earlier input. -/
def Obligations.EveryReachedStateIsSettled : Prop :=
  ∀ words : List Opcode, Settled (words.foldl State.present State.reset)
end

