-- ==== Sys2Proof/Laws/Fields.lean ====
section
/-! SUPPORT. The extractors on an opcode written as the concatenation of its fields, and every opcode written so. -/

namespace Sys2Proof

@[simp] theorem fieldG_group_address (g : Nibble) (a : Address) : fieldG (g ++ a) = g :=
  BitVec.extractLsb'_append_eq_left

@[simp] theorem fieldNnn_group_address (g : Nibble) (a : Address) : fieldNnn (g ++ a) = a :=
  BitVec.extractLsb'_append_eq_right

@[simp] theorem fieldG_group_register_byte (g : Nibble) (x : RegIndex) (kk : Byte) : fieldG (g ++ x ++ kk) = g := by
  unfold fieldG
  rw [BitVec.extractLsb'_append_eq_of_le (by decide)]
  exact BitVec.extractLsb'_append_eq_left

@[simp] theorem fieldX_group_register_byte (g : Nibble) (x : RegIndex) (kk : Byte) : fieldX (g ++ x ++ kk) = x := by
  unfold fieldX
  rw [BitVec.extractLsb'_append_eq_of_le (by decide)]
  exact BitVec.extractLsb'_append_eq_right

@[simp] theorem fieldKk_group_register_byte (g : Nibble) (x : RegIndex) (kk : Byte) : fieldKk (g ++ x ++ kk) = kk :=
  BitVec.extractLsb'_append_eq_right

@[simp] theorem fieldG_nibbles (g x y n : Nibble) : fieldG (g ++ x ++ y ++ n) = g := by
  unfold fieldG
  rw [BitVec.extractLsb'_append_eq_of_le (by decide), BitVec.extractLsb'_append_eq_of_le (by decide)]
  exact BitVec.extractLsb'_append_eq_left

@[simp] theorem fieldX_nibbles (g x y n : Nibble) : fieldX (g ++ x ++ y ++ n) = x := by
  unfold fieldX
  rw [BitVec.extractLsb'_append_eq_of_le (by decide), BitVec.extractLsb'_append_eq_of_le (by decide)]
  exact BitVec.extractLsb'_append_eq_right

@[simp] theorem fieldY_nibbles (g x y n : Nibble) : fieldY (g ++ x ++ y ++ n) = y := by
  unfold fieldY
  rw [BitVec.extractLsb'_append_eq_of_le (by decide)]
  exact BitVec.extractLsb'_append_eq_right

@[simp] theorem fieldN_nibbles (g x y n : Nibble) : fieldN (g ++ x ++ y ++ n) = n :=
  BitVec.extractLsb'_append_eq_right

/-- An opcode is its group and its address (30_encoding R53). -/
theorem group_append_address (o : Opcode) : fieldG o ++ fieldNnn o = o :=
  BitVec.extractLsb'_append_extractLsb' (w := 4) (len := 12)

/-- The address field is the register index and the low byte: `nnn = {x, kk}` (30_encoding R53). -/
theorem register_append_byte (o : Opcode) : fieldX o ++ fieldKk o = fieldNnn o :=
  BitVec.extractLsb'_append_extractLsb'_eq_extractLsb' (by decide)

/-- The low byte is the second register index and the low nibble: `kk = {y, n}` (30_encoding R53). -/
theorem register_append_nibble (o : Opcode) : fieldY o ++ fieldN o = fieldKk o :=
  BitVec.extractLsb'_append_extractLsb'_eq_extractLsb' (by decide)

theorem group_append_register_append_byte (o : Opcode) : fieldG o ++ fieldX o ++ fieldKk o = o := by
  have h : fieldG o ++ fieldX o = o.extractLsb' 8 8 :=
    BitVec.extractLsb'_append_extractLsb'_eq_extractLsb' (by decide)
  rw [h]
  exact BitVec.extractLsb'_append_extractLsb' (w := 8) (len := 8)

theorem nibbles_append (o : Opcode) : fieldG o ++ fieldX o ++ fieldY o ++ fieldN o = o := by
  have h : fieldG o ++ fieldX o = o.extractLsb' 8 8 :=
    BitVec.extractLsb'_append_extractLsb'_eq_extractLsb' (by decide)
  have h' : o.extractLsb' 8 8 ++ fieldY o = o.extractLsb' 4 12 :=
    BitVec.extractLsb'_append_extractLsb'_eq_extractLsb' (by decide)
  rw [h, h']
  exact BitVec.extractLsb'_append_extractLsb' (w := 12) (len := 4)

/-- Every opcode is four nibbles: a statement about all opcodes follows from one about four nibbles. -/
theorem opcode_nibbles (o : Opcode) : ∃ g x y n : Nibble, o = g ++ x ++ y ++ n :=
  ⟨fieldG o, fieldX o, fieldY o, fieldN o, (nibbles_append o).symm⟩

@[simp] theorem fieldKk_nibbles (g x y n : Nibble) : fieldKk (g ++ x ++ y ++ n) = y ++ n := by
  rw [← register_append_nibble, fieldY_nibbles, fieldN_nibbles]

@[simp] theorem fieldNnn_nibbles (g x y n : Nibble) : fieldNnn (g ++ x ++ y ++ n) = x ++ (y ++ n) := by
  rw [← register_append_byte, fieldX_nibbles, fieldKk_nibbles]

end Sys2Proof
end

