-- ==== Sys2Proof/Laws/Decode.lean ====
section
/-! SUPPORT. What the selectors and the decoder can answer. -/

namespace Sys2Proof

/-- The sixteen values of a digit: the case split of the primary dispatch (30_encoding R55). -/
theorem nibble_cases (d : Nibble) :
    d = 0x0#4 ∨ d = 0x1#4 ∨ d = 0x2#4 ∨ d = 0x3#4 ∨ d = 0x4#4 ∨ d = 0x5#4 ∨ d = 0x6#4 ∨ d = 0x7#4 ∨
    d = 0x8#4 ∨ d = 0x9#4 ∨ d = 0xA#4 ∨ d = 0xB#4 ∨ d = 0xC#4 ∨ d = 0xD#4 ∨ d = 0xE#4 ∨ d = 0xF#4 := by
  revert d; decide

theorem decode_group0 {o : Opcode} (h : fieldG o = 0x0#4) : decode o = selectGroup0 o := by simp [decode, h]

theorem decode_group1 {o : Opcode} (h : fieldG o = 0x1#4) : decode o = .ok (.addressArgJp (fieldNnn o)) := by simp [decode, h]

theorem decode_group2 {o : Opcode} (h : fieldG o = 0x2#4) : decode o = .ok (.addressArgCall (fieldNnn o)) := by simp [decode, h]

theorem decode_group3 {o : Opcode} (h : fieldG o = 0x3#4) : decode o = .ok (.registerByteSe (fieldX o) (fieldKk o)) := by simp [decode, h]

theorem decode_group4 {o : Opcode} (h : fieldG o = 0x4#4) : decode o = .ok (.registerByteSne (fieldX o) (fieldKk o)) := by simp [decode, h]

theorem decode_group5 {o : Opcode} (h : fieldG o = 0x5#4) : decode o = selectGroup5 o := by simp [decode, h]

theorem decode_group6 {o : Opcode} (h : fieldG o = 0x6#4) : decode o = .ok (.registerByteLd (fieldX o) (fieldKk o)) := by simp [decode, h]

theorem decode_group7 {o : Opcode} (h : fieldG o = 0x7#4) : decode o = .ok (.registerByteAdd (fieldX o) (fieldKk o)) := by simp [decode, h]

theorem decode_group8 {o : Opcode} (h : fieldG o = 0x8#4) : decode o = selectGroup8 o := by simp [decode, h]

theorem decode_group9 {o : Opcode} (h : fieldG o = 0x9#4) : decode o = selectGroup9 o := by simp [decode, h]

theorem decode_groupA {o : Opcode} (h : fieldG o = 0xA#4) : decode o = .ok (.addressArgLd (fieldNnn o)) := by simp [decode, h]

theorem decode_groupB {o : Opcode} (h : fieldG o = 0xB#4) : decode o = .ok (.addressArgJpadd (fieldNnn o)) := by simp [decode, h]

theorem decode_groupC {o : Opcode} (h : fieldG o = 0xC#4) : decode o = .ok (.registerByteRnd (fieldX o) (fieldKk o)) := by simp [decode, h]

theorem decode_groupD {o : Opcode} (h : fieldG o = 0xD#4) : decode o = .ok (.draw (fieldX o) (fieldY o) (fieldN o)) := by simp [decode, h]

theorem decode_groupE {o : Opcode} (h : fieldG o = 0xE#4) : decode o = selectGroupE o := by simp [decode, h]

theorem decode_groupF {o : Opcode} (h : fieldG o = 0xF#4) : decode o = selectGroupF o := by simp [decode, h]

/-- Group 8 rejects every low nibble but its nine (30_encoding R58). -/
theorem selectGroup8_other {o : Opcode} (h : ∀ n ∈ [0x0#4, 0x1#4, 0x2#4, 0x3#4, 0x4#4, 0x5#4, 0x6#4, 0x7#4, 0xE#4], fieldN o ≠ n) :
    selectGroup8 o = raiseDecodeFailure o := by
  unfold selectGroup8
  split <;> first | rfl | (rename_i e; exact absurd e (h _ (by decide)))

/-- Group E rejects every low byte but its two (30_encoding R60). -/
theorem selectGroupE_other {o : Opcode} (h : ∀ b ∈ [0x9E#8, 0xA1#8], fieldKk o ≠ b) : selectGroupE o = raiseDecodeFailure o := by
  unfold selectGroupE
  split <;> first | rfl | (rename_i e; exact absurd e (h _ (by decide)))

/-- Group F rejects every low byte but its nine (30_encoding R61). -/
theorem selectGroupF_other {o : Opcode}
    (h : ∀ b ∈ [0x07#8, 0x0A#8, 0x15#8, 0x18#8, 0x1E#8, 0x29#8, 0x33#8, 0x55#8, 0x65#8], fieldKk o ≠ b) :
    selectGroupF o = raiseDecodeFailure o := by
  unfold selectGroupF
  split <;> first | rfl | (rename_i e; exact absurd e (h _ (by decide)))

/-- A rejection always carries the raw form of the opcode it rejects (10_state R27). -/
theorem decode_error_raw {o : Opcode} {f : DecodeFailure} (h : decode o = .error f) : f = { raw := hex4 o } := by
  simp only [decode, selectGroup0, selectGroup5, selectGroup8, selectGroup9, selectGroupE, selectGroupF,
    raiseDecodeFailure] at h
  repeat' split at h
  all_goals cases h
  all_goals rfl

/-- The two bytes an opcode is laid out in, assembled again (20_memory R42). -/
theorem assemble_layOut (o : Opcode) : assemble (o.extractLsb' 8 8) (o.extractLsb' 0 8) = o :=
  BitVec.extractLsb'_append_extractLsb' (w := 8) (len := 8)

theorem decodeBytes_layOut_ok {o : Opcode} {i : Instr} (h : decode o = .ok i) : decodeBytes (layOut o) = .ok (i, []) := by
  simp [layOut, decodeBytes, assemble_layOut, h]

theorem decodeBytes_layOut_error {o : Opcode} {f : DecodeFailure} (h : decode o = .error f) :
    decodeBytes (layOut o) = .error (.decodeFailure f.raw) := by
  simp [layOut, decodeBytes, assemble_layOut, h]

end Sys2Proof
end

