-- ==== Sys2Proof/Laws/State.lean ====
section
/-! SUPPORT. What each update of State and each operand form leaves in every field. -/

namespace Sys2Proof.Machine

@[simp] theorem presented_eq (s : State) : presented s = s.opcode_i := rfl

@[simp] theorem presentedRaw_eq (s : State) : presentedRaw s = rawPort s.opcode_i := rfl

@[simp] theorem portsFailure_eq (raw : BitVec 32) :
    portsFailure raw =
      { valid_o := 0#1, variant_o := 0#3, op_o := 0#6, x_o := 0#4, y_o := 0#4, n_o := 0#4, kk_o := 0#8, nnn_o := 0#12, raw_o := raw } := rfl

@[simp] theorem portsNoArg_eq (op : BitVec 6) (raw : BitVec 32) :
    portsNoArg op raw =
      { valid_o := 1#1, variant_o := 1#3, op_o := op, x_o := 0#4, y_o := 0#4, n_o := 0#4, kk_o := 0#8, nnn_o := 0#12, raw_o := raw } := rfl

@[simp] theorem portsAddressArg_eq (op : BitVec 6) (address : Address) (raw : BitVec 32) :
    portsAddressArg op address raw =
      { valid_o := 1#1, variant_o := 2#3, op_o := op, x_o := 0#4, y_o := 0#4, n_o := 0#4, kk_o := 0#8, nnn_o := address,
        raw_o := raw } := rfl

@[simp] theorem portsRegisterByte_eq (op : BitVec 6) (register : RegIndex) (byte : Byte) (raw : BitVec 32) :
    portsRegisterByte op register byte raw =
      { valid_o := 1#1, variant_o := 3#3, op_o := op, x_o := register, y_o := 0#4, n_o := 0#4, kk_o := byte, nnn_o := 0#12,
        raw_o := raw } := rfl

@[simp] theorem portsTwoRegister_eq (op : BitVec 6) (vx vy : RegIndex) (raw : BitVec 32) :
    portsTwoRegister op vx vy raw =
      { valid_o := 1#1, variant_o := 4#3, op_o := op, x_o := vx, y_o := vy, n_o := 0#4, kk_o := 0#8, nnn_o := 0#12,
        raw_o := raw } := rfl

@[simp] theorem portsSingleRegister_eq (op : BitVec 6) (register : RegIndex) (shiftY : BitVec 4) (raw : BitVec 32) :
    portsSingleRegister op register shiftY raw =
      { valid_o := 1#1, variant_o := 5#3, op_o := op, x_o := register, y_o := shiftY, n_o := 0#4, kk_o := 0#8, nnn_o := 0#12,
        raw_o := raw } := rfl

@[simp] theorem portsDraw_eq (vx vy : RegIndex) (n : Nibble) (raw : BitVec 32) :
    portsDraw vx vy n raw =
      { valid_o := 1#1, variant_o := 6#3, op_o := 24#6, x_o := vx, y_o := vy, n_o := n, kk_o := 0#8, nnn_o := 0#12,
        raw_o := raw } := rfl

theorem shiftYPort_of_retain {c : Config} (h : c.shiftRetainY = true) (y : RegIndex) : shiftYPort c y = y := by
  simp [shiftYPort, h]

theorem shiftYPort_of_discard {c : Config} (h : c.shiftRetainY = false) (y : RegIndex) : shiftYPort c y = 0#4 := by
  simp [shiftYPort, h]

end Sys2Proof.Machine
end

