-- ==== Sys2Proof/Laws/Ops.lean ====
section
/-! SUPPORT. What each shared operation does: it answers a next state that differs in the outputs alone. -/

namespace Sys2Proof.Machine

/-- Everything `drive` can do. -/
theorem drive_next_iff {p : Ports} {s t : State} : drive p s = .next t ↔ t = { s with out := p } := by
  simp [drive, eq_comm]

theorem takeDecodeFailure_eq (s : State) :
    takeDecodeFailure s = .next { s with out := portsFailure (rawPort s.opcode_i) } := rfl

theorem driveNoArg_eq (op : BitVec 6) (s : State) :
    driveNoArg op s = .next { s with out := portsNoArg op (rawPort s.opcode_i) } := rfl

theorem driveAddressArg_eq (op : BitVec 6) (address : Address) (s : State) :
    driveAddressArg op address s = .next { s with out := portsAddressArg op address (rawPort s.opcode_i) } := rfl

theorem driveRegisterByte_eq (op : BitVec 6) (register : RegIndex) (byte : Byte) (s : State) :
    driveRegisterByte op register byte s =
      .next { s with out := portsRegisterByte op register byte (rawPort s.opcode_i) } := rfl

theorem driveTwoRegister_eq (op : BitVec 6) (vx vy : RegIndex) (s : State) :
    driveTwoRegister op vx vy s = .next { s with out := portsTwoRegister op vx vy (rawPort s.opcode_i) } := rfl

theorem driveSingleRegister_eq (op : BitVec 6) (register : RegIndex) (s : State) :
    driveSingleRegister op register s =
      .next { s with out := portsSingleRegister op register 0#4 (rawPort s.opcode_i) } := rfl

theorem driveShift_eq (op : BitVec 6) (register y : RegIndex) (s : State) :
    driveShift op register y s =
      .next { s with out := portsSingleRegister op register (shiftYPort s.config y) (rawPort s.opcode_i) } := rfl

theorem driveDraw_eq (vx vy : RegIndex) (n : Nibble) (s : State) :
    driveDraw vx vy n s = .next { s with out := portsDraw vx vy n (rawPort s.opcode_i) } := rfl

/-- Everything an instruction can do: it answers a next state in which only the outputs may differ. -/
theorem exec_answers (i : Instr) (s : State) : ∃ p, exec i s = .next { s with out := p } := by
  cases i <;> exact ⟨_, rfl⟩

/-- Everything an evaluation can do: it answers the settled state. -/
theorem evaluate_eq (s : State) : evaluate s = .next (settle s) := by
  unfold settle evaluate
  cases decode (presented s) with
  | error _ => rfl
  | ok i =>
    obtain ⟨p, h⟩ := exec_answers i s
    simp only [h]

/-- Everything a step can do: it settles the outputs. -/
theorem step_eq (s : State) : step s = .next (settle s) := evaluate_eq s

/-- Settling changes the outputs alone. -/
theorem settle_out_only (s : State) : ∃ p, settle s = { s with out := p } := by
  unfold settle evaluate
  cases decode (presented s) with
  | error _ => exact ⟨_, rfl⟩
  | ok i =>
    obtain ⟨p, h⟩ := exec_answers i s
    exact ⟨p, by simp only [h]⟩

@[simp] theorem settle_config (s : State) : (settle s).config = s.config := by
  obtain ⟨p, h⟩ := settle_out_only s
  rw [h]

@[simp] theorem settle_opcode_i (s : State) : (settle s).opcode_i = s.opcode_i := by
  obtain ⟨p, h⟩ := settle_out_only s
  rw [h]

@[simp] theorem State.present_config (s : State) (o : Opcode) : (s.present o).config = s.config := settle_config _

@[simp] theorem State.present_opcode_i (s : State) (o : Opcode) : (s.present o).opcode_i = o := settle_opcode_i _

@[simp] theorem State.withFetchWord_config (s : State) (nbits w : Nat) : (s.withFetchWord nbits w).config = s.config :=
  State.present_config s _

@[simp] theorem State.withFetchWord_opcode_i (s : State) (nbits w : Nat) :
    (s.withFetchWord nbits w).opcode_i = tableOpcode nbits w :=
  State.present_opcode_i s _

/-- The outputs an instruction leaves do not depend on the outputs before it. -/
theorem exec_ignores_out (i : Instr) (s : State) (p : Ports) : exec i { s with out := p } = exec i s := by
  cases i <;> rfl

end Sys2Proof.Machine
end

