-- ==== Sys2Proof/Laws/PerInstr.lean ====
section
/-! SUPPORT. Per instruction: its encoded word satisfies its own row of the opcode table (30_encoding R62). -/

namespace Sys2Proof.Laws

theorem mask_group_address (g : Nibble) (a : Address) : (g ++ a) &&& 0xF000#16 = g ++ 0#12 := by
  rw [show (0xF000#16 : Opcode) = BitVec.allOnes 4 ++ 0#12 from by decide]
  exact BitVec.and_append.trans (by rw [BitVec.and_allOnes, BitVec.and_zero])

theorem mask_group_register_byte (g : Nibble) (x : RegIndex) (kk : Byte) :
    (g ++ x ++ kk) &&& 0xF000#16 = g ++ 0#4 ++ 0#8 := by
  rw [show (0xF000#16 : Opcode) = BitVec.allOnes 4 ++ 0#4 ++ 0#8 from by decide]
  exact BitVec.and_append.trans (by simp only [BitVec.and_append, BitVec.and_allOnes, BitVec.and_zero])

theorem mask_group_register_selector (g : Nibble) (x : RegIndex) (kk : Byte) :
    (g ++ x ++ kk) &&& 0xF0FF#16 = g ++ 0#4 ++ kk := by
  rw [show (0xF0FF#16 : Opcode) = BitVec.allOnes 4 ++ 0#4 ++ BitVec.allOnes 8 from by decide]
  exact BitVec.and_append.trans (by simp only [BitVec.and_append, BitVec.and_allOnes, BitVec.and_zero])

theorem mask_group_pair_selector (g x y n : Nibble) : (g ++ x ++ y ++ n) &&& 0xF00F#16 = g ++ 0#4 ++ 0#4 ++ n := by
  rw [show (0xF00F#16 : Opcode) = BitVec.allOnes 4 ++ 0#4 ++ 0#4 ++ BitVec.allOnes 4 from by decide]
  exact BitVec.and_append.trans (by simp only [BitVec.and_append, BitVec.and_allOnes, BitVec.and_zero])

theorem mask_group_pair_height (g x y n : Nibble) : (g ++ x ++ y ++ n) &&& 0xF000#16 = g ++ 0#4 ++ 0#4 ++ 0#4 := by
  rw [show (0xF000#16 : Opcode) = BitVec.allOnes 4 ++ 0#4 ++ 0#4 ++ 0#4 from by decide]
  exact BitVec.and_append.trans (by simp only [BitVec.and_append, BitVec.and_allOnes, BitVec.and_zero])

namespace EncodingRow

/-- A well-formed instruction's word satisfies the row that has the instruction's id, and that row has its name. -/
def Statement (i : Instr) : Prop :=
  i.wellFormed = true → ∃ r, rowOf i = some r ∧ r.name = instrName i ∧ r.accepts (encode i) = true

theorem noArgCls : Statement (.noArgCls) :=
  fun _ => ⟨_, rfl, rfl, by decide⟩

theorem noArgRet : Statement (.noArgRet) :=
  fun _ => ⟨_, rfl, rfl, by decide⟩

theorem addressArgSys (address : Address) : Statement (.addressArgSys address) :=
  fun h => ⟨_, rfl, rfl, by
    simp only [OpcodeRow.accepts, encode, fieldNnn_group_address, mask_group_address]
    simpa [Instr.wellFormed] using h⟩

theorem addressArgJp (address : Address) : Statement (.addressArgJp address) :=
  fun _ => ⟨_, rfl, rfl, by simp only [OpcodeRow.accepts, encode, mask_group_address]; decide⟩

theorem addressArgCall (address : Address) : Statement (.addressArgCall address) :=
  fun _ => ⟨_, rfl, rfl, by simp only [OpcodeRow.accepts, encode, mask_group_address]; decide⟩

theorem registerByteSe (register : RegIndex) (byte : Byte) : Statement (.registerByteSe register byte) :=
  fun _ => ⟨_, rfl, rfl, by simp only [OpcodeRow.accepts, encode, mask_group_register_byte]; decide⟩

theorem registerByteSne (register : RegIndex) (byte : Byte) : Statement (.registerByteSne register byte) :=
  fun _ => ⟨_, rfl, rfl, by simp only [OpcodeRow.accepts, encode, mask_group_register_byte]; decide⟩

theorem twoRegisterSe (vx : RegIndex) (vy : RegIndex) : Statement (.twoRegisterSe vx vy) :=
  fun _ => ⟨_, rfl, rfl, by simp only [OpcodeRow.accepts, encode, mask_group_pair_selector]; decide⟩

theorem registerByteLd (register : RegIndex) (byte : Byte) : Statement (.registerByteLd register byte) :=
  fun _ => ⟨_, rfl, rfl, by simp only [OpcodeRow.accepts, encode, mask_group_register_byte]; decide⟩

theorem registerByteAdd (register : RegIndex) (byte : Byte) : Statement (.registerByteAdd register byte) :=
  fun _ => ⟨_, rfl, rfl, by simp only [OpcodeRow.accepts, encode, mask_group_register_byte]; decide⟩

theorem twoRegisterLd (vx : RegIndex) (vy : RegIndex) : Statement (.twoRegisterLd vx vy) :=
  fun _ => ⟨_, rfl, rfl, by simp only [OpcodeRow.accepts, encode, mask_group_pair_selector]; decide⟩

theorem twoRegisterOr (vx : RegIndex) (vy : RegIndex) : Statement (.twoRegisterOr vx vy) :=
  fun _ => ⟨_, rfl, rfl, by simp only [OpcodeRow.accepts, encode, mask_group_pair_selector]; decide⟩

theorem twoRegisterAnd (vx : RegIndex) (vy : RegIndex) : Statement (.twoRegisterAnd vx vy) :=
  fun _ => ⟨_, rfl, rfl, by simp only [OpcodeRow.accepts, encode, mask_group_pair_selector]; decide⟩

theorem twoRegisterXor (vx : RegIndex) (vy : RegIndex) : Statement (.twoRegisterXor vx vy) :=
  fun _ => ⟨_, rfl, rfl, by simp only [OpcodeRow.accepts, encode, mask_group_pair_selector]; decide⟩

theorem twoRegisterAdd (vx : RegIndex) (vy : RegIndex) : Statement (.twoRegisterAdd vx vy) :=
  fun _ => ⟨_, rfl, rfl, by simp only [OpcodeRow.accepts, encode, mask_group_pair_selector]; decide⟩

theorem twoRegisterSub (vx : RegIndex) (vy : RegIndex) : Statement (.twoRegisterSub vx vy) :=
  fun _ => ⟨_, rfl, rfl, by simp only [OpcodeRow.accepts, encode, mask_group_pair_selector]; decide⟩

theorem singleRegisterShr (register : RegIndex) (y : RegIndex) : Statement (.singleRegisterShr register y) :=
  fun _ => ⟨_, rfl, rfl, by simp only [OpcodeRow.accepts, encode, mask_group_pair_selector]; decide⟩

theorem twoRegisterSubn (vx : RegIndex) (vy : RegIndex) : Statement (.twoRegisterSubn vx vy) :=
  fun _ => ⟨_, rfl, rfl, by simp only [OpcodeRow.accepts, encode, mask_group_pair_selector]; decide⟩

theorem singleRegisterShl (register : RegIndex) (y : RegIndex) : Statement (.singleRegisterShl register y) :=
  fun _ => ⟨_, rfl, rfl, by simp only [OpcodeRow.accepts, encode, mask_group_pair_selector]; decide⟩

theorem twoRegisterSne (vx : RegIndex) (vy : RegIndex) : Statement (.twoRegisterSne vx vy) :=
  fun _ => ⟨_, rfl, rfl, by simp only [OpcodeRow.accepts, encode, mask_group_pair_selector]; decide⟩

theorem addressArgLd (address : Address) : Statement (.addressArgLd address) :=
  fun _ => ⟨_, rfl, rfl, by simp only [OpcodeRow.accepts, encode, mask_group_address]; decide⟩

theorem addressArgJpadd (address : Address) : Statement (.addressArgJpadd address) :=
  fun _ => ⟨_, rfl, rfl, by simp only [OpcodeRow.accepts, encode, mask_group_address]; decide⟩

theorem registerByteRnd (register : RegIndex) (byte : Byte) : Statement (.registerByteRnd register byte) :=
  fun _ => ⟨_, rfl, rfl, by simp only [OpcodeRow.accepts, encode, mask_group_register_byte]; decide⟩

theorem draw (vx : RegIndex) (vy : RegIndex) (n : Nibble) : Statement (.draw vx vy n) :=
  fun _ => ⟨_, rfl, rfl, by simp only [OpcodeRow.accepts, encode, mask_group_pair_height]; decide⟩

theorem singleRegisterSkp (register : RegIndex) : Statement (.singleRegisterSkp register) :=
  fun _ => ⟨_, rfl, rfl, by simp only [OpcodeRow.accepts, encode, mask_group_register_selector]; decide⟩

theorem singleRegisterSknp (register : RegIndex) : Statement (.singleRegisterSknp register) :=
  fun _ => ⟨_, rfl, rfl, by simp only [OpcodeRow.accepts, encode, mask_group_register_selector]; decide⟩

theorem singleRegisterDt2r (register : RegIndex) : Statement (.singleRegisterDt2r register) :=
  fun _ => ⟨_, rfl, rfl, by simp only [OpcodeRow.accepts, encode, mask_group_register_selector]; decide⟩

theorem singleRegisterLdk (register : RegIndex) : Statement (.singleRegisterLdk register) :=
  fun _ => ⟨_, rfl, rfl, by simp only [OpcodeRow.accepts, encode, mask_group_register_selector]; decide⟩

theorem singleRegisterR2dt (register : RegIndex) : Statement (.singleRegisterR2dt register) :=
  fun _ => ⟨_, rfl, rfl, by simp only [OpcodeRow.accepts, encode, mask_group_register_selector]; decide⟩

theorem singleRegisterR2st (register : RegIndex) : Statement (.singleRegisterR2st register) :=
  fun _ => ⟨_, rfl, rfl, by simp only [OpcodeRow.accepts, encode, mask_group_register_selector]; decide⟩

theorem singleRegisterAdd (register : RegIndex) : Statement (.singleRegisterAdd register) :=
  fun _ => ⟨_, rfl, rfl, by simp only [OpcodeRow.accepts, encode, mask_group_register_selector]; decide⟩

theorem singleRegisterLdf (register : RegIndex) : Statement (.singleRegisterLdf register) :=
  fun _ => ⟨_, rfl, rfl, by simp only [OpcodeRow.accepts, encode, mask_group_register_selector]; decide⟩

theorem singleRegisterBcd (register : RegIndex) : Statement (.singleRegisterBcd register) :=
  fun _ => ⟨_, rfl, rfl, by simp only [OpcodeRow.accepts, encode, mask_group_register_selector]; decide⟩

theorem singleRegisterRmem (register : RegIndex) : Statement (.singleRegisterRmem register) :=
  fun _ => ⟨_, rfl, rfl, by simp only [OpcodeRow.accepts, encode, mask_group_register_selector]; decide⟩

theorem singleRegisterMemr (register : RegIndex) : Statement (.singleRegisterMemr register) :=
  fun _ => ⟨_, rfl, rfl, by simp only [OpcodeRow.accepts, encode, mask_group_register_selector]; decide⟩

end EncodingRow

end Sys2Proof.Laws
end

