-- ==== Sys2Proof/Laws/Raw.lean ====
section
/-! SUPPORT. The character rendering and the code rendering of a hexadecimal digit agree (48_raw_rendering R166). -/

namespace Sys2Proof

@[simp] theorem charCode_hexDigit (d : Nibble) : charCode (hexDigit d) = hexCode d := by
  revert d; decide

@[simp] theorem charOfCode_hexCode (d : Nibble) : charOfCode (hexCode d) = hexDigit d := by
  revert d; decide

@[simp] theorem unhexDigit_hexDigit (d : Nibble) : unhexDigit (hexDigit d) = some d := by
  revert d; decide

@[simp] theorem isHexCode_hexCode (d : Nibble) : isHexCode (hexCode d) = true := by
  revert d; decide

/-- The port of `hex4(o)` is what the rendering path drives (R166, R167). -/
theorem hex4_toPort (o : Opcode) : (hex4 o).toPort = rawPort o := by
  simp [hex4, Raw.toPort, rawPort]

end Sys2Proof
end

