-- ==== Sys2Proof/Machine/RecordText.lean ====
section
/-! DEFINITION. The record notation of the source and of this spec (00_scope R14; 30_encoding R73), as characters. -/

namespace Sys2Proof

/-- `0x` and the digits of a 4-bit value. -/
def textNibble (d : Nibble) : List Char := ['0', 'x', hexDigit d]

/-- `0x` and the two digits of a byte. -/
def textByte (b : Byte) : List Char := ['0', 'x', hexDigit (b.extractLsb' 4 4), hexDigit (b.extractLsb' 0 4)]

/-- `0x` and the three digits of an address. -/
def textAddress (a : Address) : List Char :=
  ['0', 'x', hexDigit (a.extractLsb' 8 4), hexDigit (a.extractLsb' 4 4), hexDigit (a.extractLsb' 0 4)]

/-- The four characters of `raw` between quotation marks. -/
def textRaw (r : Raw) : List Char := ['r', 'a', 'w', '=', '"', r.c3, r.c2, r.c1, r.c0, '"']

/-- The tag names of NoArg (10_state R24). -/
def textNoArgTag (t : NoArgTag) : String :=
  match t with
  | .cls => "CLS"
  | .ret => "RET"

/-- The tag names of AddressArg (10_state R24). -/
def textAddressArgTag (t : AddressArgTag) : String :=
  match t with
  | .sys => "SYS"
  | .jp => "JP"
  | .call => "CALL"
  | .ld => "LD"
  | .jpadd => "JPADD"

/-- The tag names of RegisterByte (10_state R24). -/
def textRegisterByteTag (t : RegisterByteTag) : String :=
  match t with
  | .se => "SE"
  | .sne => "SNE"
  | .ld => "LD"
  | .add => "ADD"
  | .rnd => "RND"

/-- The tag names of TwoRegister (10_state R24). -/
def textTwoRegisterTag (t : TwoRegisterTag) : String :=
  match t with
  | .se => "SE"
  | .ld => "LD"
  | .or => "OR"
  | .and => "AND"
  | .xor => "XOR"
  | .add => "ADD"
  | .sub => "SUB"
  | .subn => "SUBN"
  | .sne => "SNE"

/-- The tag names of SingleRegister (10_state R24). -/
def textSingleRegisterTag (t : SingleRegisterTag) : String :=
  match t with
  | .shr => "SHR"
  | .shl => "SHL"
  | .skp => "SKP"
  | .sknp => "SKNP"
  | .dt2r => "DT2R"
  | .ldk => "LDK"
  | .r2dt => "R2DT"
  | .r2st => "R2ST"
  | .add => "ADD"
  | .ldf => "LDF"
  | .bcd => "BCD"
  | .rmem => "RMEM"
  | .memr => "MEMR"

/-- The parts of a record between commas. -/
def textJoin (parts : List (List Char)) : List Char :=
  match parts with
  | [] => []
  | [p] => p
  | p :: ps => p ++ [',', ' '] ++ textJoin ps

/-- A shape of R73: the name, then the parts between an opening and a closing brace (characters 123 and 125). -/
def textShape (name : String) (parts : List (List Char)) : List Char :=
  name.toList ++ [Char.ofNat 123] ++ textJoin parts ++ [Char.ofNat 125]

/-- The part `shift_y=0xY`, present only when the field is (44_group_8 R129). -/
def textShiftY (y : Option RegIndex) : List (List Char) :=
  match y with
  | none => []
  | some v => ["shift_y=".toList ++ textNibble v]

/-- An instruction record in the source's notation (R73). -/
def textRecord (r : InstrRecord) : List Char :=
  match r with
  | .noArg t raw => textShape "NoArg" [(textNoArgTag t).toList, textRaw raw]
  | .addressArg t a raw =>
    textShape "AddressArg" [(textAddressArgTag t).toList, "address=".toList ++ textAddress a, textRaw raw]
  | .registerByte t x kk raw =>
    textShape "RegisterByte"
      [(textRegisterByteTag t).toList, "register=".toList ++ textNibble x, "byte=".toList ++ textByte kk, textRaw raw]
  | .twoRegister t x y raw =>
    textShape "TwoRegister"
      [(textTwoRegisterTag t).toList, "Vx=".toList ++ textNibble x, "Vy=".toList ++ textNibble y, textRaw raw]
  | .singleRegister t x sy raw =>
    textShape "SingleRegister"
      ([(textSingleRegisterTag t).toList, "register=".toList ++ textNibble x] ++ textShiftY sy ++ [textRaw raw])
  | .draw x y n raw =>
    textShape "Draw"
      ["Vx=".toList ++ textNibble x, "Vy=".toList ++ textNibble y, "n=".toList ++ textNibble n, textRaw raw]

/-- A result in the notation of R73; the failure is written `DecodeFailure(raw="XXXX")` (10_state R27). -/
def textResult (r : Result) : List Char :=
  match r with
  | .instruction record => textRecord record
  | .decodeFailure raw => "DecodeFailure(".toList ++ textRaw raw ++ [')']

end Sys2Proof
end

