-- ==== Sys2Proof/Tests/Slice0.lean ====
section
/-! SUPPORT. Tests of the model, and for every statement with hypotheses a witness that meets them. Every expected value is
taken from spec/: the vectors of 95_test_vectors (sections 1, 2 and 3), the patterns of 30_encoding R62 and the clauses
"Ports" of the files 40 to 47. -/

namespace Sys2Proof.Tests

open Sys2Proof Sys2Proof.Machine

/-- An opcode on the input of the reset machine beside the outputs of reset, `SHIFT_RETAIN_Y` false: a state no caller reaches,
taken so that a step has something to change. -/
def presenting (o : Opcode) : State := { State.reset with opcode_i := o }

/-- The same with `SHIFT_RETAIN_Y` true. -/
def presentingRetain (o : Opcode) : State := { presenting o with config := { shiftRetainY := true } }

/-- The outputs after one step. -/
def portsAfter (s : State) : Option Ports :=
  match step s with
  | .next t => some t.out
  | .fault _ => none
  | .refused _ => none

/-- The result the outputs show after one step. -/
def resultAfter (s : State) : Option Result :=
  match step s with
  | .next t => t.result
  | .fault _ => none
  | .refused _ => none

/-- The ids of a scan through the machine, one per word. -/
def opsOf (words : List Opcode) : List (BitVec 6) := (observe words State.reset).map (fun p => p.op_o)

/-! ## Well-formedness: the one check refuses its ill-formed term -/

theorem test_wellFormed_refuses_sys_below_boundary : (Instr.addressArgSys 0x1FF#12).wellFormed = false := by decide

theorem test_wellFormed_accepts_sys_at_boundary : (Instr.addressArgSys 0x200#12).wellFormed = true := by decide

/-! ## Decoding: every constructor from a word written bit by bit from its pattern in R62 -/

theorem test_words_of_group_0 :
    decode 0b0000000011100000#16 = .ok .noArgCls ∧
    decode 0b0000000011101110#16 = .ok .noArgRet ∧
    decode 0b0000001000000000#16 = .ok (.addressArgSys 0x200#12) := by
  decide

theorem test_words_of_address_groups :
    decode 0b0001111000110010#16 = .ok (.addressArgJp 0xE32#12) ∧
    decode 0b0010000111111111#16 = .ok (.addressArgCall 0x1FF#12) ∧
    decode 0b1010000100100011#16 = .ok (.addressArgLd 0x123#12) ∧
    decode 0b1011000111111111#16 = .ok (.addressArgJpadd 0x1FF#12) := by
  decide

theorem test_words_of_register_byte_groups :
    decode 0b0011101001000010#16 = .ok (.registerByteSe 0xA#4 0x42#8) ∧
    decode 0b0100101100000111#16 = .ok (.registerByteSne 0xB#4 0x07#8) ∧
    decode 0b0110010110101011#16 = .ok (.registerByteLd 0x5#4 0xAB#8) ∧
    decode 0b0111110000000001#16 = .ok (.registerByteAdd 0xC#4 0x01#8) ∧
    decode 0b1100001100001111#16 = .ok (.registerByteRnd 0x3#4 0x0F#8) := by
  decide

theorem test_words_of_pair_compare_groups :
    decode 0b0101001111110000#16 = .ok (.twoRegisterSe 0x3#4 0xF#4) ∧
    decode 0b1001101010110000#16 = .ok (.twoRegisterSne 0xA#4 0xB#4) := by
  decide

theorem test_words_of_group_8 :
    decode 0b1000000100100000#16 = .ok (.twoRegisterLd 0x1#4 0x2#4) ∧
    decode 0b1000000100100001#16 = .ok (.twoRegisterOr 0x1#4 0x2#4) ∧
    decode 0b1000000100100010#16 = .ok (.twoRegisterAnd 0x1#4 0x2#4) ∧
    decode 0b1000000100100011#16 = .ok (.twoRegisterXor 0x1#4 0x2#4) ∧
    decode 0b1000000100100100#16 = .ok (.twoRegisterAdd 0x1#4 0x2#4) ∧
    decode 0b1000000100100101#16 = .ok (.twoRegisterSub 0x1#4 0x2#4) ∧
    decode 0b1000001011110110#16 = .ok (.singleRegisterShr 0x2#4 0xF#4) ∧
    decode 0b1000000100100111#16 = .ok (.twoRegisterSubn 0x1#4 0x2#4) ∧
    decode 0b1000110001011110#16 = .ok (.singleRegisterShl 0xC#4 0x5#4) := by
  decide

theorem test_words_of_group_D :
    decode 0b1101010110001010#16 = .ok (.draw 0x5#4 0x8#4 0xA#4) := by
  decide

theorem test_words_of_group_E :
    decode 0b1110001110011110#16 = .ok (.singleRegisterSkp 0x3#4) ∧
    decode 0b1110111110100001#16 = .ok (.singleRegisterSknp 0xF#4) := by
  decide

theorem test_words_of_group_F :
    decode 0b1111111100000111#16 = .ok (.singleRegisterDt2r 0xF#4) ∧
    decode 0b1111001000001010#16 = .ok (.singleRegisterLdk 0x2#4) ∧
    decode 0b1111010000010101#16 = .ok (.singleRegisterR2dt 0x4#4) ∧
    decode 0b1111010100011000#16 = .ok (.singleRegisterR2st 0x5#4) ∧
    decode 0b1111011000011110#16 = .ok (.singleRegisterAdd 0x6#4) ∧
    decode 0b1111011100101001#16 = .ok (.singleRegisterLdf 0x7#4) ∧
    decode 0b1111100000110011#16 = .ok (.singleRegisterBcd 0x8#4) ∧
    decode 0b1111100101010101#16 = .ok (.singleRegisterRmem 0x9#4) ∧
    decode 0b1111101001100101#16 = .ok (.singleRegisterMemr 0xA#4) := by
  decide

/-- Words that decode to no instruction: 95_test_vectors sections 2.1, 2.4, 2.5, 2.7 and 2.8, the neighbours of the legal ones. -/
theorem test_illegal_words_are_rejected :
    [0x0000#16, 0x00DF#16, 0x00E1#16, 0x00ED#16, 0x00EF#16, 0x01E0#16, 0x01FF#16, 0x5001#16, 0x500F#16, 0x52C1#16, 0x9008#16,
      0x8128#16, 0x812D#16, 0x8FFF#16, 0xE000#16, 0xE09D#16, 0xE09F#16, 0xE0A0#16, 0xE0A2#16, 0xF006#16, 0xF00B#16, 0xF030#16,
      0xF066#16, 0xFFFF#16].all (fun o => decode o == .error { raw := hex4 o }) = true := by
  decide

/-- The low 12 bits mean nothing special outside group 0, and a SYS may end in E0 (95 sections 2.1, 2.2). -/
theorem test_low_bits_are_no_selector_elsewhere :
    decode 0x02E0#16 = .ok (.addressArgSys 0x2E0#12) ∧ decode 0x10E0#16 = .ok (.addressArgJp 0x0E0#12) ∧
    decode 0x700F#16 = .ok (.registerByteAdd 0x0#4 0x0F#8) ∧ decode 0xD000#16 = .ok (.draw 0x0#4 0x0#4 0x0#4) := by
  decide

/-! ## One step: the outputs for one word of each instruction -/

theorem test_step_noArgCls :
    portsAfter (presenting 0x00E0#16) =
      some { valid_o := 1#1, variant_o := 1#3, op_o := 1#6, x_o := 0x0#4, y_o := 0x0#4, n_o := 0x0#4, kk_o := 0x00#8,
             nnn_o := 0x000#12, raw_o := 0x30304530#32 } := by
  decide

theorem test_step_noArgRet :
    portsAfter (presenting 0x00EE#16) =
      some { valid_o := 1#1, variant_o := 1#3, op_o := 2#6, x_o := 0x0#4, y_o := 0x0#4, n_o := 0x0#4, kk_o := 0x00#8,
             nnn_o := 0x000#12, raw_o := 0x30304545#32 } := by
  decide

theorem test_step_addressArgSys :
    portsAfter (presenting 0x0200#16) =
      some { valid_o := 1#1, variant_o := 2#3, op_o := 3#6, x_o := 0x0#4, y_o := 0x0#4, n_o := 0x0#4, kk_o := 0x00#8,
             nnn_o := 0x200#12, raw_o := 0x30323030#32 } := by
  decide

theorem test_step_addressArgJp :
    portsAfter (presenting 0x1E32#16) =
      some { valid_o := 1#1, variant_o := 2#3, op_o := 4#6, x_o := 0x0#4, y_o := 0x0#4, n_o := 0x0#4, kk_o := 0x00#8,
             nnn_o := 0xE32#12, raw_o := 0x31453332#32 } := by
  decide

theorem test_step_addressArgCall :
    portsAfter (presenting 0x21FF#16) =
      some { valid_o := 1#1, variant_o := 2#3, op_o := 5#6, x_o := 0x0#4, y_o := 0x0#4, n_o := 0x0#4, kk_o := 0x00#8,
             nnn_o := 0x1FF#12, raw_o := 0x32314646#32 } := by
  decide

theorem test_step_registerByteSe :
    portsAfter (presenting 0x3A42#16) =
      some { valid_o := 1#1, variant_o := 3#3, op_o := 6#6, x_o := 0xA#4, y_o := 0x0#4, n_o := 0x0#4, kk_o := 0x42#8,
             nnn_o := 0x000#12, raw_o := 0x33413432#32 } := by
  decide

theorem test_step_registerByteSne :
    portsAfter (presenting 0x4B07#16) =
      some { valid_o := 1#1, variant_o := 3#3, op_o := 7#6, x_o := 0xB#4, y_o := 0x0#4, n_o := 0x0#4, kk_o := 0x07#8,
             nnn_o := 0x000#12, raw_o := 0x34423037#32 } := by
  decide

theorem test_step_twoRegisterSe :
    portsAfter (presenting 0x53F0#16) =
      some { valid_o := 1#1, variant_o := 4#3, op_o := 8#6, x_o := 0x3#4, y_o := 0xF#4, n_o := 0x0#4, kk_o := 0x00#8,
             nnn_o := 0x000#12, raw_o := 0x35334630#32 } := by
  decide

theorem test_step_registerByteLd :
    portsAfter (presenting 0x65AB#16) =
      some { valid_o := 1#1, variant_o := 3#3, op_o := 9#6, x_o := 0x5#4, y_o := 0x0#4, n_o := 0x0#4, kk_o := 0xAB#8,
             nnn_o := 0x000#12, raw_o := 0x36354142#32 } := by
  decide

theorem test_step_registerByteAdd :
    portsAfter (presenting 0x7C01#16) =
      some { valid_o := 1#1, variant_o := 3#3, op_o := 10#6, x_o := 0xC#4, y_o := 0x0#4, n_o := 0x0#4, kk_o := 0x01#8,
             nnn_o := 0x000#12, raw_o := 0x37433031#32 } := by
  decide

theorem test_step_twoRegisterLd :
    portsAfter (presenting 0x8120#16) =
      some { valid_o := 1#1, variant_o := 4#3, op_o := 11#6, x_o := 0x1#4, y_o := 0x2#4, n_o := 0x0#4, kk_o := 0x00#8,
             nnn_o := 0x000#12, raw_o := 0x38313230#32 } := by
  decide

theorem test_step_twoRegisterOr :
    portsAfter (presenting 0x8121#16) =
      some { valid_o := 1#1, variant_o := 4#3, op_o := 12#6, x_o := 0x1#4, y_o := 0x2#4, n_o := 0x0#4, kk_o := 0x00#8,
             nnn_o := 0x000#12, raw_o := 0x38313231#32 } := by
  decide

theorem test_step_twoRegisterAnd :
    portsAfter (presenting 0x8122#16) =
      some { valid_o := 1#1, variant_o := 4#3, op_o := 13#6, x_o := 0x1#4, y_o := 0x2#4, n_o := 0x0#4, kk_o := 0x00#8,
             nnn_o := 0x000#12, raw_o := 0x38313232#32 } := by
  decide

theorem test_step_twoRegisterXor :
    portsAfter (presenting 0x8123#16) =
      some { valid_o := 1#1, variant_o := 4#3, op_o := 14#6, x_o := 0x1#4, y_o := 0x2#4, n_o := 0x0#4, kk_o := 0x00#8,
             nnn_o := 0x000#12, raw_o := 0x38313233#32 } := by
  decide

theorem test_step_twoRegisterAdd :
    portsAfter (presenting 0x8124#16) =
      some { valid_o := 1#1, variant_o := 4#3, op_o := 15#6, x_o := 0x1#4, y_o := 0x2#4, n_o := 0x0#4, kk_o := 0x00#8,
             nnn_o := 0x000#12, raw_o := 0x38313234#32 } := by
  decide

theorem test_step_twoRegisterSub :
    portsAfter (presenting 0x8125#16) =
      some { valid_o := 1#1, variant_o := 4#3, op_o := 16#6, x_o := 0x1#4, y_o := 0x2#4, n_o := 0x0#4, kk_o := 0x00#8,
             nnn_o := 0x000#12, raw_o := 0x38313235#32 } := by
  decide

theorem test_step_singleRegisterShr :
    portsAfter (presenting 0x82F6#16) =
      some { valid_o := 1#1, variant_o := 5#3, op_o := 17#6, x_o := 0x2#4, y_o := 0x0#4, n_o := 0x0#4, kk_o := 0x00#8,
             nnn_o := 0x000#12, raw_o := 0x38324636#32 } := by
  decide

theorem test_step_twoRegisterSubn :
    portsAfter (presenting 0x8127#16) =
      some { valid_o := 1#1, variant_o := 4#3, op_o := 18#6, x_o := 0x1#4, y_o := 0x2#4, n_o := 0x0#4, kk_o := 0x00#8,
             nnn_o := 0x000#12, raw_o := 0x38313237#32 } := by
  decide

theorem test_step_singleRegisterShl :
    portsAfter (presenting 0x8C5E#16) =
      some { valid_o := 1#1, variant_o := 5#3, op_o := 19#6, x_o := 0xC#4, y_o := 0x0#4, n_o := 0x0#4, kk_o := 0x00#8,
             nnn_o := 0x000#12, raw_o := 0x38433545#32 } := by
  decide

theorem test_step_twoRegisterSne :
    portsAfter (presenting 0x9AB0#16) =
      some { valid_o := 1#1, variant_o := 4#3, op_o := 20#6, x_o := 0xA#4, y_o := 0xB#4, n_o := 0x0#4, kk_o := 0x00#8,
             nnn_o := 0x000#12, raw_o := 0x39414230#32 } := by
  decide

theorem test_step_addressArgLd :
    portsAfter (presenting 0xA123#16) =
      some { valid_o := 1#1, variant_o := 2#3, op_o := 21#6, x_o := 0x0#4, y_o := 0x0#4, n_o := 0x0#4, kk_o := 0x00#8,
             nnn_o := 0x123#12, raw_o := 0x41313233#32 } := by
  decide

theorem test_step_addressArgJpadd :
    portsAfter (presenting 0xB1FF#16) =
      some { valid_o := 1#1, variant_o := 2#3, op_o := 22#6, x_o := 0x0#4, y_o := 0x0#4, n_o := 0x0#4, kk_o := 0x00#8,
             nnn_o := 0x1FF#12, raw_o := 0x42314646#32 } := by
  decide

theorem test_step_registerByteRnd :
    portsAfter (presenting 0xC30F#16) =
      some { valid_o := 1#1, variant_o := 3#3, op_o := 23#6, x_o := 0x3#4, y_o := 0x0#4, n_o := 0x0#4, kk_o := 0x0F#8,
             nnn_o := 0x000#12, raw_o := 0x43333046#32 } := by
  decide

theorem test_step_draw :
    portsAfter (presenting 0xD58A#16) =
      some { valid_o := 1#1, variant_o := 6#3, op_o := 24#6, x_o := 0x5#4, y_o := 0x8#4, n_o := 0xA#4, kk_o := 0x00#8,
             nnn_o := 0x000#12, raw_o := 0x44353841#32 } := by
  decide

theorem test_step_singleRegisterSkp :
    portsAfter (presenting 0xE39E#16) =
      some { valid_o := 1#1, variant_o := 5#3, op_o := 25#6, x_o := 0x3#4, y_o := 0x0#4, n_o := 0x0#4, kk_o := 0x00#8,
             nnn_o := 0x000#12, raw_o := 0x45333945#32 } := by
  decide

theorem test_step_singleRegisterSknp :
    portsAfter (presenting 0xEFA1#16) =
      some { valid_o := 1#1, variant_o := 5#3, op_o := 26#6, x_o := 0xF#4, y_o := 0x0#4, n_o := 0x0#4, kk_o := 0x00#8,
             nnn_o := 0x000#12, raw_o := 0x45464131#32 } := by
  decide

theorem test_step_singleRegisterDt2r :
    portsAfter (presenting 0xFF07#16) =
      some { valid_o := 1#1, variant_o := 5#3, op_o := 27#6, x_o := 0xF#4, y_o := 0x0#4, n_o := 0x0#4, kk_o := 0x00#8,
             nnn_o := 0x000#12, raw_o := 0x46463037#32 } := by
  decide

theorem test_step_singleRegisterLdk :
    portsAfter (presenting 0xF20A#16) =
      some { valid_o := 1#1, variant_o := 5#3, op_o := 28#6, x_o := 0x2#4, y_o := 0x0#4, n_o := 0x0#4, kk_o := 0x00#8,
             nnn_o := 0x000#12, raw_o := 0x46323041#32 } := by
  decide

theorem test_step_singleRegisterR2dt :
    portsAfter (presenting 0xF415#16) =
      some { valid_o := 1#1, variant_o := 5#3, op_o := 29#6, x_o := 0x4#4, y_o := 0x0#4, n_o := 0x0#4, kk_o := 0x00#8,
             nnn_o := 0x000#12, raw_o := 0x46343135#32 } := by
  decide

theorem test_step_singleRegisterR2st :
    portsAfter (presenting 0xF518#16) =
      some { valid_o := 1#1, variant_o := 5#3, op_o := 30#6, x_o := 0x5#4, y_o := 0x0#4, n_o := 0x0#4, kk_o := 0x00#8,
             nnn_o := 0x000#12, raw_o := 0x46353138#32 } := by
  decide

theorem test_step_singleRegisterAdd :
    portsAfter (presenting 0xF61E#16) =
      some { valid_o := 1#1, variant_o := 5#3, op_o := 31#6, x_o := 0x6#4, y_o := 0x0#4, n_o := 0x0#4, kk_o := 0x00#8,
             nnn_o := 0x000#12, raw_o := 0x46363145#32 } := by
  decide

theorem test_step_singleRegisterLdf :
    portsAfter (presenting 0xF729#16) =
      some { valid_o := 1#1, variant_o := 5#3, op_o := 32#6, x_o := 0x7#4, y_o := 0x0#4, n_o := 0x0#4, kk_o := 0x00#8,
             nnn_o := 0x000#12, raw_o := 0x46373239#32 } := by
  decide

theorem test_step_singleRegisterBcd :
    portsAfter (presenting 0xF833#16) =
      some { valid_o := 1#1, variant_o := 5#3, op_o := 33#6, x_o := 0x8#4, y_o := 0x0#4, n_o := 0x0#4, kk_o := 0x00#8,
             nnn_o := 0x000#12, raw_o := 0x46383333#32 } := by
  decide

theorem test_step_singleRegisterRmem :
    portsAfter (presenting 0xF955#16) =
      some { valid_o := 1#1, variant_o := 5#3, op_o := 34#6, x_o := 0x9#4, y_o := 0x0#4, n_o := 0x0#4, kk_o := 0x00#8,
             nnn_o := 0x000#12, raw_o := 0x46393535#32 } := by
  decide

theorem test_step_singleRegisterMemr :
    portsAfter (presenting 0xFA65#16) =
      some { valid_o := 1#1, variant_o := 5#3, op_o := 35#6, x_o := 0xA#4, y_o := 0x0#4, n_o := 0x0#4, kk_o := 0x00#8,
             nnn_o := 0x000#12, raw_o := 0x46413635#32 } := by
  decide

/-- The decode failure at the all-ones word (95 section 2.10). -/
theorem test_step_decode_failure :
    portsAfter (presenting 0xFFFF#16) =
      some { valid_o := 0#1, variant_o := 0#3, op_o := 0#6, x_o := 0#4, y_o := 0#4, n_o := 0#4, kk_o := 0#8, nnn_o := 0#12,
             raw_o := 0x46464646#32 } := by
  decide

/-- `SHIFT_RETAIN_Y = true` (95 section 2.10): `y_o` is the second nibble of the shifts. -/
theorem test_step_shifts_with_retained_y :
    portsAfter (presentingRetain 0x82F6#16) =
      some { valid_o := 1#1, variant_o := 5#3, op_o := 17#6, x_o := 0x2#4, y_o := 0xF#4, n_o := 0#4, kk_o := 0#8, nnn_o := 0#12,
             raw_o := 0x38324636#32 } ∧
    portsAfter (presentingRetain 0x8C5E#16) =
      some { valid_o := 1#1, variant_o := 5#3, op_o := 19#6, x_o := 0xC#4, y_o := 0x5#4, n_o := 0#4, kk_o := 0#8, nnn_o := 0#12,
             raw_o := 0x38433545#32 } := by
  decide

/-- A field of `SHIFT_RETAIN_Y = true` is present even when it is 0 (95 section 2.5). -/
theorem test_result_shift_y_of_zero :
    resultAfter (presentingRetain 0x8206#16) = some (.instruction (.singleRegister .shr 0x2#4 (some 0x0#4) (hex4 0x8206#16))) ∧
    resultAfter (presenting 0x8206#16) = some (.instruction (.singleRegister .shr 0x2#4 none (hex4 0x8206#16))) := by
  decide

/-! ## Raw form, notation, validator, bytes, scans -/

/-- 95 section 2.9. -/
theorem test_raw_port :
    rawPort 0x0001#16 = 0x30303031#32 ∧ rawPort 0x9ABC#16 = 0x39414243#32 ∧ rawPort 0xA09F#16 = 0x41303946#32 ∧
    rawPort 0xDEF0#16 = 0x44454630#32 := by
  decide

/-- 95 section 1, examples 4 and 5, in the notation of R73 (characters 123 and 125 are the braces). -/
theorem test_text_of_results :
    textResult (decodeResult { shiftRetainY := false } 0xD58A#16) =
      "Draw".toList ++ [Char.ofNat 123] ++ "Vx=0x5, Vy=0x8, n=0xA, raw=\"D58A\"".toList ++ [Char.ofNat 125] ∧
    textResult (decodeResult { shiftRetainY := false } 0x52C1#16) = "DecodeFailure(raw=\"52C1\")".toList := by
  decide

/-- The text with `shift_y` (44_group_8 R129; 95 section 2.5). -/
theorem test_text_of_retained_shift :
    textResult (decodeResult { shiftRetainY := true } 0x82F6#16) =
      "SingleRegister".toList ++ [Char.ofNat 123] ++ "SHR, register=0x2, shift_y=0xF, raw=\"82F6\"".toList ++ [Char.ofNat 125] := by
  decide

/-- 95 section 2.11. -/
theorem test_valid_at_the_boundaries :
    [0x0200#16, 0x00E0#16, 0x00EE#16, 0x5AB0#16, 0x9AB0#16, 0x8AB7#16, 0x8ABE#16, 0xE19E#16, 0xF165#16, 0x1000#16, 0xD000#16].all
      valid = true ∧
    [0x01FF#16, 0x00E2#16, 0x5AB1#16, 0x9AB8#16, 0x8AB8#16, 0x8ABF#16, 0xE19F#16, 0xF166#16].any valid = false := by
  decide

/-- The host's two questions at a table word: the decoder's answer, and the step that runs it. -/
theorem test_table_word :
    decodeTableWord 16 0x1E32 = some (.addressArgJp 0xE32#12) ∧ decodeTableWord 16 0x0000 = none ∧
    portsAfter (State.reset.withFetchWord 16 0x1E32) = portsAfter (presenting 0x1E32#16) := by
  decide

/-- The outputs follow the input without a step (10_state R28): 95 section 2.10 for the first word, and for the failure after it. -/
theorem test_present_moves_the_outputs :
    (State.reset.present 0x3A42#16).out =
      { valid_o := 1#1, variant_o := 3#3, op_o := 6#6, x_o := 0xA#4, y_o := 0#4, n_o := 0#4, kk_o := 0x42#8, nnn_o := 0#12,
        raw_o := 0x33413432#32 } ∧
    ((State.reset.present 0x3A42#16).present 0x52C1#16).out = portsFailure 0x35324331#32 := by
  decide

/-- 95 program P5: the right byte order and the wrong one. -/
theorem test_byte_order :
    decodeBytes [0x6A#8, 0x05#8, 0xFF#8] = .ok (.registerByteLd 0xA#4 0x05#8, [0xFF#8]) ∧
    decodeBytes [0x05#8, 0x6A#8] = .ok (.addressArgSys 0x56A#12, []) ∧
    decodeBytes [0x6A#8] = .error .incomplete := by
  decide

/-- 95 program P1 read from its second byte (P6): five words, the odd last byte is none. -/
theorem test_scan_from_an_odd_place :
    opsOf (opcodesOf [0xE0#8, 0xA2#8, 0x0C#8, 0x60#8, 0x0C#8, 0x61#8, 0x08#8, 0xD0#8, 0x15#8, 0x12#8, 0x0A#8]) =
      [0#6, 3#6, 3#6, 3#6, 4#6] := by
  decide

/-- 95 program P3: picture data scanned as code. -/
theorem test_scan_of_data :
    opsOf (opcodesOf [0xF0#8, 0x90#8, 0x90#8, 0x90#8, 0xF0#8, 0x20#8, 0x60#8, 0x20#8, 0x20#8, 0x70#8]) =
      [0#6, 20#6, 0#6, 9#6, 5#6] := by
  decide

/-! ## Witnesses: for every statement with hypotheses, inputs that meet them, clause by clause -/

/-- Both clauses of `StepRunsTheDecodedInstruction`, and the two of `DecodeFailureDrivesZerosAndRaw`. -/
theorem witness_StepRunsTheDecodedInstruction :
    decode (presenting 0x00E0#16).opcode_i = .ok .noArgCls ∧
    decode (presenting 0x01FF#16).opcode_i = .error { raw := hex4 0x01FF#16 } := by
  decide

theorem witness_DecodeFailureDrivesZerosAndRaw :
    decode (presenting 0xF066#16).opcode_i = .error { raw := hex4 0xF066#16 } ∧
    decode (presenting 0x0200#16).opcode_i = .ok (.addressArgSys 0x200#12) := by
  decide

/-- The address hypothesis at both ends of its range. -/
theorem witness_AddressArgInstructionsDriveTheirPorts : sysMinAddr ≤ 0x200#12 ∧ sysMinAddr ≤ 0xFFF#12 := by decide

/-- Both values of the parameter. -/
theorem witness_ShiftInstructionsDriveTheirPorts :
    (presenting 0x82F6#16).config.shiftRetainY = false ∧ (presentingRetain 0x82F6#16).config.shiftRetainY = true := by
  decide

/-- The threshold from both sides, the two exact words, and the failures next to them. -/
theorem witness_Group0SelectsByThresholdThenExactly :
    [0x0200#16, 0x0FFF#16].all (fun o => fieldG o == 0x0#4 && decide (0x200#12 ≤ fieldNnn o)) = true ∧
    (fieldG 0x00E0#16 = 0x0#4 ∧ fieldNnn 0x00E0#16 = 0x0E0#12) ∧
    (fieldG 0x00EE#16 = 0x0#4 ∧ fieldNnn 0x00EE#16 = 0x0EE#12) ∧
    [0x0000#16, 0x00DF#16, 0x00E1#16, 0x00ED#16, 0x00EF#16, 0x01FF#16].all (fun o => fieldG o == 0x0#4 &&
      decide (fieldNnn o < 0x200#12) && fieldNnn o != 0x0E0#12 && fieldNnn o != 0x0EE#12) = true := by
  decide

/-- Each group at both ends of its operand range. -/
theorem witness_AddressGroupsAlwaysGiveTheLowTwelveBits :
    fieldG (presenting 0x1000#16).opcode_i = 0x1#4 ∧ fieldG (presenting 0x1FFF#16).opcode_i = 0x1#4 ∧
    fieldG (presenting 0x2000#16).opcode_i = 0x2#4 ∧ fieldG (presenting 0x2FFF#16).opcode_i = 0x2#4 ∧
    fieldG (presenting 0xA000#16).opcode_i = 0xA#4 ∧ fieldG (presenting 0xAFFF#16).opcode_i = 0xA#4 ∧
    fieldG (presenting 0xB000#16).opcode_i = 0xB#4 ∧ fieldG (presenting 0xBFFF#16).opcode_i = 0xB#4 := by
  decide

theorem witness_RegisterByteGroupsAlwaysGiveRegisterAndByte :
    fieldG (presenting 0x3000#16).opcode_i = 0x3#4 ∧ fieldG (presenting 0x3FFF#16).opcode_i = 0x3#4 ∧
    fieldG (presenting 0x4000#16).opcode_i = 0x4#4 ∧ fieldG (presenting 0x6FFF#16).opcode_i = 0x6#4 ∧
    fieldG (presenting 0x7000#16).opcode_i = 0x7#4 ∧ fieldG (presenting 0xCFFF#16).opcode_i = 0xC#4 := by
  decide

/-- Both groups with the low nibble 0, 1 and 15. -/
theorem witness_PairCompareGroupsNeedAZeroLowNibble :
    (fieldG 0x5FF0#16 = 0x5#4 ∧ fieldN 0x5FF0#16 = 0x0#4) ∧ (fieldG 0x5001#16 = 0x5#4 ∧ fieldN 0x5001#16 ≠ 0x0#4) ∧
    (fieldG 0x500F#16 = 0x5#4 ∧ fieldN 0x500F#16 ≠ 0x0#4) ∧
    (fieldG 0x9FF0#16 = 0x9#4 ∧ fieldN 0x9FF0#16 = 0x0#4) ∧ (fieldG 0x9001#16 = 0x9#4 ∧ fieldN 0x9001#16 ≠ 0x0#4) := by
  decide

/-- Every low nibble: the sixteen clauses cover the group. -/
theorem witness_Group8SelectsByLowNibble :
    (List.range 16).all (fun n => fieldG (0x812#12 ++ BitVec.ofNat 4 n) == 0x8#4 &&
      fieldN (0x812#12 ++ BitVec.ofNat 4 n) == BitVec.ofNat 4 n) = true ∧
    (presenting 0x8126#16).config.shiftRetainY = false ∧ (presenting 0x812E#16).config.shiftRetainY = false := by
  decide

theorem witness_GroupDAlwaysGivesDraw : fieldG (presenting 0xD000#16).opcode_i = 0xD#4 ∧ fieldG (presenting 0xDFFF#16).opcode_i = 0xD#4 := by
  decide

theorem witness_GroupESelectsByLowByte :
    (fieldG 0xE09E#16 = 0xE#4 ∧ fieldKk 0xE09E#16 = 0x9E#8) ∧ (fieldG 0xEFA1#16 = 0xE#4 ∧ fieldKk 0xEFA1#16 = 0xA1#8) ∧
    [0xE09D#16, 0xE09F#16, 0xE0A0#16, 0xE0A2#16].all (fun o => fieldG o == 0xE#4 && fieldKk o != 0x9E#8 && fieldKk o != 0xA1#8) = true := by
  decide

/-- The nine low bytes, and their neighbours, which are in none of the nine. -/
theorem witness_GroupFSelectsByLowByteTable :
    [0x07#8, 0x0A#8, 0x15#8, 0x18#8, 0x1E#8, 0x29#8, 0x33#8, 0x55#8, 0x65#8].all (fun b => fieldG (0xF0#8 ++ b) == 0xF#4 &&
      fieldKk (0xF0#8 ++ b) == b) = true ∧
    [0xF006#16, 0xF008#16, 0xF00B#16, 0xF014#16, 0xF01F#16, 0xF034#16, 0xF056#16, 0xF066#16].all (fun o => fieldG o == 0xF#4 &&
      !groupFBytes.contains (fieldKk o)) = true := by
  decide

/-- A shift and an instruction that is none, at `SHIFT_RETAIN_Y = false`. -/
theorem witness_ShiftRetainYAddsOnlyTheSecondNibble :
    (portsAfter (presenting 0x82F6#16)).map (fun p => isShiftOp p.op_o) = some true ∧
    (portsAfter (presenting 0x8127#16)).map (fun p => isShiftOp p.op_o) = some false := by
  decide

/-- Two states that show different outputs and hold the same opcode and parameter; and an evaluation of one. -/
theorem witness_EveryOpcodeHasExactlyOneResult :
    let s : State := presenting 0xF20A#16
    let s' : State := { s with out := portsFailure 0#32 }
    s.config = s'.config ∧ s.opcode_i = s'.opcode_i ∧ s ≠ s' ∧
      Evaluates s (.instruction (.singleRegister .ldk 0x2#4 none (hex4 0xF20A#16))) :=
  ⟨rfl, rfl, by decide, _, rfl, rfl, rfl, by decide⟩

theorem witness_StepDependsOnlyOnOpcodeAndParameter :
    let s : State := presenting 0x52C1#16
    let s' : State := { s with out := portsNoArg 1#6 0#32 }
    s.config = s'.config ∧ s.opcode_i = s'.opcode_i ∧ s ≠ s' := by
  decide

theorem witness_EveryInstructionCompletesWithItsRecord :
    (Instr.addressArgSys 0x200#12).wellFormed = true ∧ (Instr.draw 0xF#4 0xF#4 0x0#4).wellFormed = true := by
  decide

/-- The hypothesis `step s = .next t` of the statements about every evaluation: met at a legal and at an illegal opcode, from a
state no run reaches. -/
theorem witness_EveryStepLeavesCoherentSettledOutputs :
    let s : State := { presenting 0xD58A#16 with out := portsNoArg 63#6 0#32 }
    s.coherent = false ∧ (∃ t, step s = .next t) ∧ ∃ t, step (presenting 0x0000#16) = .next t :=
  ⟨by decide, ⟨_, rfl⟩, ⟨_, rfl⟩⟩

theorem witness_EvaluatingAgainChangesNothing : ∃ t, step (presenting 0x82F6#16) = .next t ∧ t ≠ presenting 0x82F6#16 :=
  ⟨_, rfl, by decide⟩

/-- Both sides of each equivalence of `OutputsAreAllOrNothing`. -/
theorem witness_OutputsAreAllOrNothing :
    (portsAfter (presenting 0xFFFF#16)).map (fun p => p.valid_o) = some 0#1 ∧
    (portsAfter (presenting 0xFA65#16)).map (fun p => p.valid_o) = some 1#1 := by
  decide

/-- A record and a failure that an evaluation hands over. -/
theorem witness_FieldsAreTheDigitsOfRaw :
    Evaluates (presentingRetain 0x82F6#16) (.instruction (.singleRegister .shr 0x2#4 (some 0xF#4) (hex4 0x82F6#16))) ∧
    Evaluates (presenting 0x52C1#16) (.decodeFailure (hex4 0x52C1#16)) :=
  ⟨⟨_, rfl, rfl, rfl, by decide⟩, ⟨_, rfl, rfl, rfl, by decide⟩⟩

/-- Both verdicts of the validator, and a step at each. -/
theorem witness_ValidatorAgreesWithDecoder :
    valid 0x0200#16 = true ∧ valid 0x01FF#16 = false ∧ (∃ t, step (presenting 0x0200#16) = .next t) ∧
    ∃ t, step (presenting 0x01FF#16) = .next t :=
  ⟨by decide, by decide, ⟨_, rfl⟩, ⟨_, rfl⟩⟩

/-- Each of the five kinds of illegal word, and a legal one. -/
theorem witness_IllegalWordsAreExactlyTheListed :
    [0x01FF#16, 0x5001#16, 0x900F#16, 0x812F#16, 0xE0A2#16, 0xF066#16].all (fun o => decode o == .error { raw := hex4 o }) = true ∧
    decode 0x0200#16 ≠ .error { raw := hex4 0x0200#16 } := by
  decide

/-- A row and an opcode in it, and an opcode in no row. -/
theorem witness_InstructionListSelectsTheDecodedRow :
    (∃ r ∈ opcodeRows, r.accepts 0x0200#16 = true) ∧ ∀ r ∈ opcodeRows, r.accepts 0x01FF#16 = false := by
  decide

theorem witness_DecodeOfEncodeIsTheInstruction :
    (Instr.addressArgSys 0x200#12).wellFormed = true ∧ decode (encode (.addressArgSys 0x200#12)) = .ok (.addressArgSys 0x200#12) := by
  decide

theorem witness_EncodeOfDecodeIsTheWord : decode 0x8C5E#16 = .ok (.singleRegisterShl 0xC#4 0x5#4) := by decide

/-- `8206` and `82F6`, and `800E` and `80FE`: the two clauses of the conclusion. -/
theorem witness_OnlyTheDiscardedNibbleIsLost :
    let c : Config := { shiftRetainY := false }
    (decode 0x8206#16 = .ok (.singleRegisterShr 0x2#4 0x0#4) ∧ decode 0x82F6#16 = .ok (.singleRegisterShr 0x2#4 0xF#4) ∧
      recordOf c (hex4 0#16) (.singleRegisterShr 0x2#4 0x0#4) = recordOf c (hex4 0#16) (.singleRegisterShr 0x2#4 0xF#4)) ∧
    (decode 0x800E#16 = .ok (.singleRegisterShl 0x0#4 0x0#4) ∧ decode 0x80FE#16 = .ok (.singleRegisterShl 0x0#4 0xF#4) ∧
      recordOf c (hex4 0#16) (.singleRegisterShl 0x0#4 0x0#4) = recordOf c (hex4 0#16) (.singleRegisterShl 0x0#4 0xF#4)) := by
  decide

/-- Two bytes of a legal word and two of an illegal one. -/
theorem witness_FirstByteIsTheHighByte :
    decode (assemble 0x6A#8 0x05#8) = .ok (.registerByteLd 0xA#4 0x05#8) ∧
    decode (assemble 0x00#8 0x12#8) = .error { raw := hex4 0x0012#16 } := by
  decide

/-- Both sides of the equivalence: a settled state and one that is not. -/
theorem witness_SettledIsExactlyWhereAStepChangesNothing :
    Settled State.reset ∧ step State.reset = .next State.reset ∧ ¬ Settled (presenting 0xD58A#16) :=
  ⟨by unfold Settled; decide, rfl, by unfold Settled; decide⟩

/-- A first string of even length, ending in an illegal word. -/
theorem witness_ScanTakesTwoBytesPerResult : [0x00#8, 0xE0#8, 0x8A#8, 0xB8#8].length % 2 = 0 := by decide

end Sys2Proof.Tests
end

namespace Sys2Proof.Machine

/-! ## The ports of a record or of the failure read back as that result (10_state R33) -/

/-- The four codes on `raw_o` read back as the four characters of `raw` (48_raw_rendering R168). -/
@[simp] theorem rawOfPort_rawPort (o : Opcode) : rawOfPort (rawPort o) = hex4 o := by
  have h3 : (rawPort o).extractLsb' 24 8 = hexCode (fieldG o) := by
    rw [rawPort, BitVec.extractLsb'_append_eq_of_le (by decide), BitVec.extractLsb'_append_eq_of_le (by decide)]
    exact BitVec.extractLsb'_append_eq_left
  have h2 : (rawPort o).extractLsb' 16 8 = hexCode (fieldX o) := by
    rw [rawPort, BitVec.extractLsb'_append_eq_of_le (by decide), BitVec.extractLsb'_append_eq_of_le (by decide)]
    exact BitVec.extractLsb'_append_eq_right
  have h1 : (rawPort o).extractLsb' 8 8 = hexCode (fieldY o) := by
    rw [rawPort, BitVec.extractLsb'_append_eq_of_le (by decide)]
    exact BitVec.extractLsb'_append_eq_right
  have h0 : (rawPort o).extractLsb' 0 8 = hexCode (fieldN o) := BitVec.extractLsb'_append_eq_right
  simp only [rawOfPort, hex4, h3, h2, h1, h0, charOfCode_hexCode]

/-- What a shift shows on `y_o` is its field `shift_y`, and 0 where the field is absent (44_group_8 R129). -/
theorem shiftYField_getD (c : Config) (y : RegIndex) : (shiftYField c y).getD 0#4 = shiftYPort c y := by
  cases h : c.shiftRetainY <;> simp [shiftYField, shiftYPort, h]

/-- The field `shift_y` is read back from `y_o`: present exactly in the build that retains it (44_group_8 R129). -/
theorem shiftYField_shiftYPort (c : Config) (y : RegIndex) : shiftYField c (shiftYPort c y) = shiftYField c y := by
  cases h : c.shiftRetainY <;> simp [shiftYField, shiftYPort, h]

/-- `op_o` tells variant and tag, the field ports the fields and `raw_o` the raw form: together they give the record of every
instruction back, in both builds. -/
theorem recordOfPorts_portsOfRecord (c : Config) (o : Opcode) (i : Instr) :
    recordOfPorts c (portsOfRecord (recordOf c (hex4 o) i)) = some (recordOf c (hex4 o) i) := by
  cases i with
  | singleRegisterShr _ _ | singleRegisterShl _ _ =>
    simp only [recordOf, portsOfRecord, hex4_toPort, shiftYField_getD]
    simp [recordOfPorts, singleRegisterOp, shiftYField_shiftYPort]
  | _ =>
    simp only [recordOf, portsOfRecord, hex4_toPort]
    simp [recordOfPorts, noArgOp, addressArgOp, registerByteOp, twoRegisterOp, singleRegisterOp]

/-- `valid_o` is 1 on every record (10_state R33). -/
@[simp] theorem portsOfRecord_valid_o (r : InstrRecord) : (portsOfRecord r).valid_o = 1#1 := by
  cases r <;> rfl

theorem resultOfPorts_portsOfRecord (c : Config) (o : Opcode) (i : Instr) :
    resultOfPorts c (portsOfRecord (recordOf c (hex4 o) i)) = some (.instruction (recordOf c (hex4 o) i)) := by
  simp [resultOfPorts, recordOfPorts_portsOfRecord]

theorem resultOfPorts_portsFailure (c : Config) (o : Opcode) :
    resultOfPorts c (portsFailure (hex4 o).toPort) = some (.decodeFailure (hex4 o)) := by
  simp [resultOfPorts, hex4_toPort]

/-- The abstract result of an opcode, by what the decoder says of it. -/
theorem decodeResult_of_ok {c : Config} {o : Opcode} {i : Instr} (h : decode o = .ok i) :
    decodeResult c o = .instruction (recordOf c (hex4 o) i) := by
  simp [decodeResult, h]

theorem decodeResult_of_error {c : Config} {o : Opcode} {f : DecodeFailure} (h : decode o = .error f) :
    decodeResult c o = .decodeFailure (hex4 o) := by
  simp [decodeResult, h, decode_error_raw h]

/-- The ports of an opcode's result give that result back, legal opcode or not. -/
theorem resultOfPorts_portsOfResult (c : Config) (o : Opcode) :
    resultOfPorts c (portsOfResult (decodeResult c o)) = some (decodeResult c o) := by
  cases h : decode o with
  | ok i =>
    rw [decodeResult_of_ok h]
    exact resultOfPorts_portsOfRecord c o i
  | error f =>
    rw [decodeResult_of_error h]
    exact resultOfPorts_portsFailure c o

/-! ## Which ports an instruction, an evaluation and a step leave, and which result an evaluation hands over. -/

/-- Everything an instruction does: the outputs become the ports of its own record, whatever the state (00_scope R6). It holds of
a SYS below the threshold too, a term no opcode decodes to (log entry 12). -/
theorem exec_eq (i : Instr) (s : State) :
    exec i s = .next { s with out := portsOfRecord (recordOf s.config (hex4 s.opcode_i) i) } := by
  cases i with
  | singleRegisterShr _ _ | singleRegisterShl _ _ =>
    simp only [recordOf, portsOfRecord, hex4_toPort, shiftYField_getD]
    rfl
  | _ =>
    simp only [recordOf, portsOfRecord, hex4_toPort]
    rfl

/-- The failure is taken as the ports of the abstract failure (60_exceptions R192). -/
theorem takeDecodeFailure_eq_portsOfResult (s : State) :
    takeDecodeFailure s = .next { s with out := portsOfResult (.decodeFailure (hex4 s.opcode_i)) } := by
  rw [takeDecodeFailure_eq, portsOfResult, hex4_toPort]

/-- The settled state shows the ports of the abstract result of its opcode, and is otherwise the state itself. -/
theorem settle_eq (s : State) : settle s = { s with out := portsOfResult (decodeResult s.config s.opcode_i) } := by
  unfold settle evaluate
  cases h : decode s.opcode_i with
  | ok i => simp only [presented_eq, h, exec_eq, decodeResult_of_ok h, portsOfResult]
  | error f => simp only [presented_eq, h, takeDecodeFailure_eq_portsOfResult, decodeResult_of_error h]

/-- The outputs of the settled state read as the abstract result of its opcode. -/
@[simp] theorem settle_result (s : State) : (settle s).result = some (decodeResult s.config s.opcode_i) := by
  rw [settle_eq]
  exact resultOfPorts_portsOfResult s.config s.opcode_i

/-- An evaluation hands over the abstract result of the presented opcode and no other. -/
theorem evaluates_iff {s : State} {r : Result} : Evaluates s r ↔ r = decodeResult s.config s.opcode_i := by
  constructor
  · rintro ⟨t, hstep, -, -, hr⟩
    obtain rfl : settle s = t := by simpa [step_eq] using hstep
    simpa using hr.symm
  · rintro rfl
    exact ⟨settle s, step_eq s, settle_config s, settle_opcode_i s, settle_result s⟩

/-! ## The statements of 00_scope: the reset state, one result per opcode, one record per instruction. -/

/-- Reset shows the decode failure of the word its input holds (10_state R39). -/
theorem reset_settled : Settled State.reset := by
  unfold Settled
  decide

/-- Settles O1: at reset the outputs are those of the failure, which are coherent. -/
theorem resetIsSettledAtTheDefaultParameter : Obligations.ResetIsSettledAtTheDefaultParameter :=
  ⟨rfl, reset_settled, by decide⟩

/-- Settles O22: an evaluation hands over `decodeResult` of the parameter and the opcode, and nothing else. -/
theorem everyOpcodeHasExactlyOneResult : Obligations.EveryOpcodeHasExactlyOneResult := by
  constructor
  · intro s
    exact ⟨decodeResult s.config s.opcode_i, evaluates_iff.2 rfl, fun _ h => evaluates_iff.1 h⟩
  · intro s s' hconfig hopcode r h
    rw [evaluates_iff] at h ⊢
    rw [h, hconfig, hopcode]

/-- Settles O24: an instruction drives the ports of its record, and those ports read back as the record. -/
theorem everyInstructionCompletesWithItsRecord : Obligations.EveryInstructionCompletesWithItsRecord := by
  intro i s _
  exact ⟨_, exec_eq i s, rfl, rfl, resultOfPorts_portsOfRecord s.config s.opcode_i i⟩

end Sys2Proof.Machine

namespace Sys2Proof.Machine

/-! ## Every output vector of a result is coherent (10_state R31; 49_instruction_validator R181, R182) -/

/-- A byte is the code of the character it stands for (48_raw_rendering R166, decision D6). -/
theorem charCode_charOfCode (b : Byte) : charCode (charOfCode b) = b := by
  revert b
  decide

/-- A byte that stands for a hexadecimal digit is one of the sixteen codes. -/
theorem isHexCode_of_charOfCode {b : Byte} {d : Nibble} (h : charOfCode b = hexDigit d) : isHexCode b = true := by
  have hcode : b = hexCode d := by rw [← charCode_hexDigit, ← h, charCode_charOfCode]
  rw [hcode, isHexCode_hexCode]

/-- The rendering path drives hexadecimal codes alone, for it reads back as four hexadecimal digits (R168, R182). -/
@[simp] theorem rawPortIsHex_rawPort (o : Opcode) : rawPortIsHex (rawPort o) = true := by
  have h := rawOfPort_rawPort o
  simp only [rawOfPort, hex4, Raw.mk.injEq] at h
  obtain ⟨h3, h2, h1, h0⟩ := h
  simp only [rawPortIsHex, isHexCode_of_charOfCode h3, isHexCode_of_charOfCode h2, isHexCode_of_charOfCode h1,
    isHexCode_of_charOfCode h0, Bool.and_self]

theorem selectGroup0_wellFormed {o : Opcode} {i : Instr} (h : selectGroup0 o = .ok i) : i.wellFormed = true := by
  unfold selectGroup0 raiseDecodeFailure at h
  split at h
  next hmin =>
    cases h
    exact decide_eq_true hmin
  next =>
    split at h
    · cases h
      rfl
    · split at h <;> cases h
      rfl

theorem selectGroup5_wellFormed {o : Opcode} {i : Instr} (h : selectGroup5 o = .ok i) : i.wellFormed = true := by
  unfold selectGroup5 raiseDecodeFailure at h
  split at h <;> cases h
  rfl

theorem selectGroup8_wellFormed {o : Opcode} {i : Instr} (h : selectGroup8 o = .ok i) : i.wellFormed = true := by
  unfold selectGroup8 raiseDecodeFailure at h
  split at h <;> cases h <;> rfl

theorem selectGroup9_wellFormed {o : Opcode} {i : Instr} (h : selectGroup9 o = .ok i) : i.wellFormed = true := by
  unfold selectGroup9 raiseDecodeFailure at h
  split at h <;> cases h
  rfl

theorem selectGroupE_wellFormed {o : Opcode} {i : Instr} (h : selectGroupE o = .ok i) : i.wellFormed = true := by
  unfold selectGroupE raiseDecodeFailure at h
  split at h <;> cases h <;> rfl

theorem selectGroupF_wellFormed {o : Opcode} {i : Instr} (h : selectGroupF o = .ok i) : i.wellFormed = true := by
  unfold selectGroupF raiseDecodeFailure at h
  split at h <;> cases h <;> rfl

/-- What the decoder gives is an instruction: a SYS address is at least `SYS_MIN_ADDR` (R181). Group 0 alone checks something. -/
theorem decode_wellFormed {o : Opcode} {i : Instr} (h : decode o = .ok i) : i.wellFormed = true := by
  unfold decode at h
  split at h
  case h_1 => exact selectGroup0_wellFormed h
  case h_6 => exact selectGroup5_wellFormed h
  case h_9 => exact selectGroup8_wellFormed h
  case h_10 => exact selectGroup9_wellFormed h
  case h_15 => exact selectGroupE_wellFormed h
  case h_16 => exact selectGroupF_wellFormed h
  all_goals
    cases h
    rfl

/-- Only ids of AddressArg can be the id of SYS (10_state R30). -/
theorem op_ne_sys {op : BitVec 6} {v : Variant} (hop : variantOfOp op = some v) (hv : v ≠ .addressArg) : op ≠ 3#6 := by
  rintro rfl
  exact hv (Option.some.inj hop).symm

section
variable {c : Config} {raw : BitVec 32} (hraw : rawPortIsHex raw = true)
include hraw

theorem portsFailure_coherent : portsCoherent c (portsFailure raw) = true := by
  simp [portsCoherent, hraw]

theorem portsNoArg_coherent {op : BitVec 6} (hop : variantOfOp op = some .noArg) :
    portsCoherent c (portsNoArg op raw) = true := by
  have hne : op ≠ 3#6 := op_ne_sys hop (by decide)
  simp [portsCoherent, unusedPortsZero, variantCode, hraw, hop, hne]

theorem portsAddressArg_coherent {op : BitVec 6} {address : Address} (hop : variantOfOp op = some .addressArg)
    (hsys : op = 3#6 → sysMinAddr ≤ address) : portsCoherent c (portsAddressArg op address raw) = true := by
  have hbound : (op != 3#6 || decide (sysMinAddr ≤ address)) = true := by
    simpa [← imp_iff_not_or] using hsys
  simp only [portsCoherent, portsAddressArg_eq, unusedPortsZero, variantCode, hraw, hop, beq_self_eq_true,
    Bool.and_self, if_true]
  exact hbound

theorem portsRegisterByte_coherent {op : BitVec 6} {register : RegIndex} {byte : Byte}
    (hop : variantOfOp op = some .registerByte) : portsCoherent c (portsRegisterByte op register byte raw) = true := by
  have hne : op ≠ 3#6 := op_ne_sys hop (by decide)
  simp [portsCoherent, unusedPortsZero, variantCode, hraw, hop, hne]

theorem portsTwoRegister_coherent {op : BitVec 6} {vx vy : RegIndex} (hop : variantOfOp op = some .twoRegister) :
    portsCoherent c (portsTwoRegister op vx vy raw) = true := by
  have hne : op ≠ 3#6 := op_ne_sys hop (by decide)
  simp [portsCoherent, unusedPortsZero, variantCode, hraw, hop, hne]

theorem portsSingleRegister_coherent {op : BitVec 6} {register : RegIndex} {shiftY : BitVec 4}
    (hop : variantOfOp op = some .singleRegister) (hy : shiftY = 0#4 ∨ c.shiftRetainY = true ∧ isShiftOp op = true) :
    portsCoherent c (portsSingleRegister op register shiftY raw) = true := by
  have hne : op ≠ 3#6 := op_ne_sys hop (by decide)
  simpa [portsCoherent, unusedPortsZero, variantCode, hraw, hop, hne] using hy

theorem portsDraw_coherent {vx vy : RegIndex} {n : Nibble} : portsCoherent c (portsDraw vx vy n raw) = true := by
  have hop : variantOfOp 24#6 = some .draw := rfl
  simp [portsCoherent, unusedPortsZero, variantCode, hraw, hop]

end

/-- Only the build that retains it lets a shift show its second nibble (44_group_8 R129). -/
theorem shiftYField_getD_zero_or_retain (c : Config) (y : RegIndex) :
    (shiftYField c y).getD 0#4 = 0#4 ∨ c.shiftRetainY = true := by
  cases h : c.shiftRetainY <;> simp [shiftYField, h]

/-- The ports of every well-formed instruction are coherent, in both builds. -/
theorem portsOfRecord_coherent (c : Config) (o : Opcode) {i : Instr} (h : i.wellFormed = true) :
    portsCoherent c (portsOfRecord (recordOf c (hex4 o) i)) = true := by
  have hraw : rawPortIsHex (hex4 o).toPort = true := by rw [hex4_toPort, rawPortIsHex_rawPort]
  cases i with
  | noArgCls | noArgRet => exact portsNoArg_coherent hraw rfl
  | addressArgSys address => exact portsAddressArg_coherent hraw rfl fun _ => of_decide_eq_true h
  | addressArgJp _ | addressArgCall _ | addressArgLd _ | addressArgJpadd _ =>
    exact portsAddressArg_coherent hraw rfl (by intro e; cases e)
  | registerByteSe _ _ | registerByteSne _ _ | registerByteLd _ _ | registerByteAdd _ _ | registerByteRnd _ _ =>
    exact portsRegisterByte_coherent hraw rfl
  | twoRegisterSe _ _ | twoRegisterLd _ _ | twoRegisterOr _ _ | twoRegisterAnd _ _ | twoRegisterXor _ _
  | twoRegisterAdd _ _ | twoRegisterSub _ _ | twoRegisterSubn _ _ | twoRegisterSne _ _ =>
    exact portsTwoRegister_coherent hraw rfl
  | singleRegisterShr _ y | singleRegisterShl _ y =>
    exact portsSingleRegister_coherent hraw rfl ((shiftYField_getD_zero_or_retain c y).imp_right fun hc => ⟨hc, rfl⟩)
  | draw _ _ _ => exact portsDraw_coherent hraw
  | singleRegisterSkp _ | singleRegisterSknp _ | singleRegisterDt2r _ | singleRegisterLdk _ | singleRegisterR2dt _
  | singleRegisterR2st _ | singleRegisterAdd _ | singleRegisterLdf _ | singleRegisterBcd _ | singleRegisterRmem _
  | singleRegisterMemr _ =>
    exact portsSingleRegister_coherent hraw rfl (.inl rfl)

/-- The ports of every opcode's result are coherent, in both builds. -/
theorem portsOfResult_coherent (c : Config) (o : Opcode) : portsCoherent c (portsOfResult (decodeResult c o)) = true := by
  cases h : decode o with
  | ok i =>
    rw [decodeResult_of_ok h]
    exact portsOfRecord_coherent c o (decode_wellFormed h)
  | error f =>
    rw [decodeResult_of_error h, portsOfResult, hex4_toPort]
    exact portsFailure_coherent (rawPortIsHex_rawPort o)

/-! ## Settling, presenting and stepping leave settled outputs (10_state R28) -/

theorem settle_coherent (s : State) : (settle s).coherent = true := by
  rw [settle_eq]
  exact portsOfResult_coherent s.config s.opcode_i

theorem settle_settled (s : State) : Settled (settle s) := by
  rw [settle_eq, Settled]

/-- The settled states are the fixed points of settling. -/
theorem settled_iff_settle_eq (s : State) : Settled s ↔ settle s = s := by
  constructor
  · intro h
    rw [settle_eq, ← h]
  · intro h
    rw [← h]
    exact settle_settled s

theorem State.present_settled (s : State) (o : Opcode) : Settled (s.present o) :=
  settle_settled _

/-! ## The statements of 10_state -/

/-- Settles O27: a step settles the outputs, and settled outputs are the ports of the abstract result. -/
theorem stepRefinesTheAbstractDecode : Obligations.StepRefinesTheAbstractDecode := by
  intro s
  rw [step_eq, settle_eq]

/-- Settles O28: a step answers the settled state, which is coherent for every opcode. -/
theorem everyStepLeavesCoherentSettledOutputs : Obligations.EveryStepLeavesCoherentSettledOutputs := by
  intro s t h
  obtain rfl : settle s = t := by simpa [step_eq] using h
  exact ⟨settle_coherent s, settle_settled s⟩

/-- Settles O25: the abstract result, all that a step shows, is a function of the parameter and the opcode. -/
theorem stepDependsOnlyOnOpcodeAndParameter : Obligations.StepDependsOnlyOnOpcodeAndParameter := by
  intro s s' hconfig hopcode
  simp only [step_eq, settle_eq, hconfig, hopcode]

/-- Settles O30, by the read-back of a record and of the failure. -/
theorem portsGiveTheResultBack : Obligations.PortsGiveTheResultBack :=
  resultOfPorts_portsOfResult

/-- Settles O46: presenting settles the outputs on the new input, and a step on settled outputs changes nothing. -/
theorem outputsFollowThePresentedInput : Obligations.OutputsFollowThePresentedInput := by
  intro s o
  have hsettled : Settled (s.present o) := s.present_settled o
  refine ⟨s.present_opcode_i o, s.present_config o, ?_, ?_⟩
  · simpa only [Settled, State.present_config, State.present_opcode_i] using hsettled
  · rw [step_eq, (settled_iff_settle_eq _).1 hsettled]

/-- Settles O47: the settled states are the fixed points of settling, which is all a step does. -/
theorem settledIsExactlyWhereAStepChangesNothing : Obligations.SettledIsExactlyWhereAStepChangesNothing := by
  intro s
  rw [settled_iff_settle_eq, step_eq, Host.Outcome.next.injEq]

/-- Settles O48, by induction on the presented opcodes: reset is settled, and presenting settles whatever came before. -/
theorem everyReachedStateIsSettled : Obligations.EveryReachedStateIsSettled := by
  intro words
  exact List.foldlRecOn words State.present reset_settled fun s _ o _ => s.present_settled o

end Sys2Proof.Machine

namespace Sys2Proof

/-! ## Byte order: an opcode is two bytes, high byte first (20_memory R42) -/

section
variable (b0 b1 : Byte)

@[simp] theorem assemble_high_byte : (assemble b0 b1).extractLsb' 8 8 = b0 :=
  BitVec.extractLsb'_append_eq_left

@[simp] theorem assemble_low_byte : (assemble b0 b1).extractLsb' 0 8 = b1 :=
  BitVec.extractLsb'_append_eq_right

@[simp] theorem fieldG_assemble : fieldG (assemble b0 b1) = b0.extractLsb' 4 4 :=
  BitVec.extractLsb'_append_eq_of_le (by decide)

@[simp] theorem fieldX_assemble : fieldX (assemble b0 b1) = b0.extractLsb' 0 4 :=
  BitVec.extractLsb'_append_eq_of_le (by decide)

@[simp] theorem fieldKk_assemble : fieldKk (assemble b0 b1) = b1 :=
  assemble_low_byte b0 b1

end

section
variable {b0 b1 : Byte}

/-- A legal first word is decoded, and the bytes after it are handed back untouched. -/
theorem decodeBytes_of_ok {i : Instr} (h : decode (assemble b0 b1) = .ok i) (rest : List Byte) :
    decodeBytes (b0 :: b1 :: rest) = .ok (i, rest) := by
  simp [decodeBytes, h]

/-- An illegal first word is rejected, whatever bytes come after it. -/
theorem decodeBytes_of_error {f : DecodeFailure} (h : decode (assemble b0 b1) = .error f) (rest : List Byte) :
    decodeBytes (b0 :: b1 :: rest) = .error (.decodeFailure f.raw) := by
  simp [decodeBytes, h]

end

end Sys2Proof

namespace Sys2Proof.Machine

/-! ## The statements of 20_memory -/

/-- One observation of a caller: what presenting the first opcode shows. The step after it changes nothing (R44), so the run
goes on from the presented state. -/
theorem observe_cons (o : Opcode) (words : List Opcode) (s : State) :
    observe (o :: words) s = (s.present o).out :: observe words (s.present o) := by
  have hstep : step (s.present o) = .next (s.present o) :=
    (settledIsExactlyWhereAStepChangesNothing _).1 (s.present_settled o)
  simp only [observe, hstep]

/-- Settles O26: a step leaves settled outputs, and on those a step changes nothing. -/
theorem evaluatingAgainChangesNothing : Obligations.EvaluatingAgainChangesNothing := by
  intro s t h
  obtain ⟨-, hsettled⟩ := everyStepLeavesCoherentSettledOutputs s t h
  exact (settledIsExactlyWhereAStepChangesNothing t).1 hsettled

/-- Settles O29, by induction on the presented opcodes for every starting state: an observation is the presented opcode's own,
and it hands only the parameter, unchanged, to the rest of the run. -/
theorem observationsDependOnEachOpcodeAlone : Obligations.ObservationsDependOnEachOpcodeAlone := by
  intro words
  induction words with
  | nil => exact fun _ => rfl
  | cons o words ih =>
    intro s
    obtain ⟨-, hconfig, hout, -⟩ := outputsFollowThePresentedInput s o
    rw [observe_cons, ih, hconfig, hout, List.map_cons]

/-- Settles O44, by the fields of two assembled bytes and the byte decoder's answer at a legal and at an illegal first word. -/
theorem firstByteIsTheHighByte : Obligations.FirstByteIsTheHighByte := by
  intro b0 b1
  exact ⟨assemble_high_byte b0 b1, assemble_low_byte b0 b1, fieldG_assemble b0 b1, fieldX_assemble b0 b1,
    fieldKk_assemble b0 b1, fun rest => ⟨fun _ h => decodeBytes_of_ok h rest, fun _ h => decodeBytes_of_error h rest⟩⟩

end Sys2Proof.Machine

namespace Sys2Proof

/-! ## Decode and encode are inverse on the well-formed instructions (30_encoding section 9) -/

/-- Decode of encode, by the pattern of each instruction: the group selects, then the selector nibble or byte. -/
theorem decode_encode {i : Instr} (h : i.wellFormed = true) : decode (encode i) = .ok i := by
  cases i with
  | noArgCls | noArgRet => decide
  | addressArgSys a =>
    have hmin : sysMinAddr ≤ a := of_decide_eq_true h
    simp [encode, decode, selectGroup0, hmin]
  | addressArgJp _ | addressArgCall _ | addressArgLd _ | addressArgJpadd _ => simp [encode, decode]
  | registerByteSe _ _ | registerByteSne _ _ | registerByteLd _ _ | registerByteAdd _ _ | registerByteRnd _ _ =>
    simp [encode, decode]
  | twoRegisterSe _ _ => simp [encode, decode, selectGroup5]
  | twoRegisterLd _ _ | twoRegisterOr _ _ | twoRegisterAnd _ _ | twoRegisterXor _ _ | twoRegisterAdd _ _
  | twoRegisterSub _ _ | singleRegisterShr _ _ | twoRegisterSubn _ _ | singleRegisterShl _ _ =>
    simp [encode, decode, selectGroup8]
  | twoRegisterSne _ _ => simp [encode, decode, selectGroup9]
  | draw _ _ _ => simp [encode, decode]
  | singleRegisterSkp _ | singleRegisterSknp _ => simp [encode, decode, selectGroupE]
  | singleRegisterDt2r _ | singleRegisterLdk _ | singleRegisterR2dt _ | singleRegisterR2st _ | singleRegisterAdd _
  | singleRegisterLdf _ | singleRegisterBcd _ | singleRegisterRmem _ | singleRegisterMemr _ =>
    simp [encode, decode, selectGroupF]

/-- An opcode that is the word of a well-formed instruction decodes to it. -/
theorem decode_of_encode_eq {o : Opcode} {i : Instr} (ho : encode i = o) (h : i.wellFormed = true) :
    decode o = .ok i :=
  ho ▸ decode_encode h

section
variable {o : Opcode} {g : Nibble} (hg : fieldG o = g)
include hg

/-- A word of the pattern `gnnn`, put together again from its group and its address. -/
theorem group_address_word : g ++ fieldNnn o = o := by
  rw [← hg, group_append_address]

/-- A word of the pattern `gxkk`, put together again from its group, its register and its byte. -/
theorem group_register_byte_word {kk : Byte} (hkk : fieldKk o = kk) : g ++ fieldX o ++ kk = o := by
  rw [← hg, ← hkk, group_append_register_append_byte]

/-- A word of the pattern `gxyn`, put together again from its four digits. -/
theorem group_pair_nibble_word {n : Nibble} (hn : fieldN o = n) : g ++ fieldX o ++ fieldY o ++ n = o := by
  rw [← hg, ← hn, nibbles_append]

end

section
variable {o : Opcode} {i : Instr}

theorem encode_of_selectGroup0 (hg : fieldG o = 0x0#4) (h : selectGroup0 o = .ok i) : encode i = o := by
  have hword : 0x0#4 ++ fieldNnn o = o := group_address_word hg
  unfold selectGroup0 raiseDecodeFailure at h
  split at h
  next =>
    cases h
    exact hword
  next =>
    split at h
    next hcls =>
      cases h
      rw [← hword, hcls]
      rfl
    next =>
      split at h <;> cases h
      next hret =>
        rw [← hword, hret]
        rfl

theorem encode_of_selectGroup5 (hg : fieldG o = 0x5#4) (h : selectGroup5 o = .ok i) : encode i = o := by
  unfold selectGroup5 raiseDecodeFailure at h
  split at h <;> cases h
  next hn => exact group_pair_nibble_word hg hn

theorem encode_of_selectGroup8 (hg : fieldG o = 0x8#4) (h : selectGroup8 o = .ok i) : encode i = o := by
  unfold selectGroup8 raiseDecodeFailure at h
  split at h <;> cases h
  all_goals
    next hn => exact group_pair_nibble_word hg hn

theorem encode_of_selectGroup9 (hg : fieldG o = 0x9#4) (h : selectGroup9 o = .ok i) : encode i = o := by
  unfold selectGroup9 raiseDecodeFailure at h
  split at h <;> cases h
  next hn => exact group_pair_nibble_word hg hn

theorem encode_of_selectGroupE (hg : fieldG o = 0xE#4) (h : selectGroupE o = .ok i) : encode i = o := by
  unfold selectGroupE raiseDecodeFailure at h
  split at h <;> cases h
  all_goals
    next hkk => exact group_register_byte_word hg hkk

theorem encode_of_selectGroupF (hg : fieldG o = 0xF#4) (h : selectGroupF o = .ok i) : encode i = o := by
  unfold selectGroupF raiseDecodeFailure at h
  split at h <;> cases h
  all_goals
    next hkk => exact group_register_byte_word hg hkk

/-- Encode of decode, group by group of the primary dispatch (30_encoding R55). -/
theorem encode_of_decode (h : decode o = .ok i) : encode i = o := by
  unfold decode at h
  split at h
  case h_1 hg => exact encode_of_selectGroup0 hg h
  case h_6 hg => exact encode_of_selectGroup5 hg h
  case h_9 hg => exact encode_of_selectGroup8 hg h
  case h_10 hg => exact encode_of_selectGroup9 hg h
  case h_15 hg => exact encode_of_selectGroupE hg h
  case h_16 =>
    have hg : fieldG o = 0xF#4 := by
      have := nibble_cases (fieldG o)
      simp_all
    exact encode_of_selectGroupF hg h
  case h_2 hg | h_3 hg | h_11 hg | h_12 hg =>
    cases h
    exact group_address_word hg
  case h_4 hg | h_5 hg | h_7 hg | h_8 hg | h_13 hg =>
    cases h
    exact group_register_byte_word hg rfl
  case h_14 hg =>
    cases h
    exact group_pair_nibble_word hg rfl

end

/-- Settles O41, by the pattern of each instruction. -/
theorem decodeOfEncodeIsTheInstruction : Obligations.DecodeOfEncodeIsTheInstruction :=
  fun _ => decode_encode

/-- Settles O42, by the sixteen groups of the dispatch and the selector each of them matched. -/
theorem encodeOfDecodeIsTheWord : Obligations.EncodeOfDecodeIsTheWord :=
  fun _ _ h => ⟨encode_of_decode h, Machine.decode_wellFormed h⟩

/-- Settles O3, by evaluating the decoder on the twelve words. -/
theorem wordsOfEveryFamilyDecode : Obligations.WordsOfEveryFamilyDecode := by
  unfold Obligations.WordsOfEveryFamilyDecode
  decide

/-! ## The six fields as numbers (30_encoding R53) and the threshold as a bit test (R56) -/

/-- Settles O38, by the value of an extracted field and by the concatenations of adjacent fields. -/
theorem extractorsAreShiftsAndMasks : Obligations.ExtractorsAreShiftsAndMasks := by
  intro o
  have hxy : fieldX o ++ fieldY o = o.extractLsb' 4 8 :=
    BitVec.extractLsb'_append_extractLsb'_eq_extractLsb' (by decide)
  have hxyn : fieldX o ++ fieldY o ++ fieldN o = fieldNnn o := by
    rw [hxy]
    exact BitVec.extractLsb'_append_extractLsb'_eq_extractLsb' (by decide)
  refine ⟨?_, ?_, ?_, ?_, ?_, ?_, hxyn.symm, (register_append_byte o).symm, (register_append_nibble o).symm⟩ <;>
    simp [fieldG, fieldX, fieldY, fieldN, fieldKk, fieldNnn, Nat.shiftRight_eq_div_pow]

/-- Settles O39: both sides compare the low 12 bits, as a number, with 0x200. -/
theorem thresholdIsABitTest : Obligations.ThresholdIsABitTest := by
  intro o
  obtain ⟨-, -, -, -, -, hnnn, -⟩ := extractorsAreShiftsAndMasks o
  have hbits : (o.extractLsb' 9 3).toNat = o.toNat / 2 ^ 9 % 8 := by simp [Nat.shiftRight_eq_div_pow]
  simp only [sysMinAddr, BitVec.le_def, ne_eq, BitVec.toNat_eq, hnnn, hbits, BitVec.toNat_ofNat]
  omega

/-- The threshold 0x200 compares the first digit of the address with 2. -/
theorem sysMinAddr_le_fieldNnn_iff (o : Opcode) : sysMinAddr ≤ fieldNnn o ↔ 2#4 ≤ fieldX o := by
  obtain ⟨-, hx, -, -, -, hnnn, -⟩ := extractorsAreShiftsAndMasks o
  simp only [sysMinAddr, BitVec.le_def, hnnn, hx, BitVec.toNat_ofNat]
  omega

/-! ## The illegal words, selector by selector (30_encoding R64 to R68) -/

section
variable {o : Opcode}

theorem selectGroup0_eq_failure_iff :
    selectGroup0 o = raiseDecodeFailure o ↔
      fieldNnn o < 0x200#12 ∧ fieldNnn o ≠ 0x0E0#12 ∧ fieldNnn o ≠ 0x0EE#12 := by
  unfold selectGroup0 raiseDecodeFailure
  rw [← BitVec.not_le]
  split
  next hmin => simp [show 0x200#12 ≤ fieldNnn o from hmin]
  next hmin =>
    have hmin' : ¬ 0x200#12 ≤ fieldNnn o := hmin
    split
    next hcls => simp [hcls]
    next hcls =>
      split
      next hret => simp [hret]
      next hret => simp [hmin', hcls, hret]

theorem selectGroup5_eq_failure_iff : selectGroup5 o = raiseDecodeFailure o ↔ fieldN o ≠ 0x0#4 := by
  by_cases hn : fieldN o = 0x0#4 <;> simp [selectGroup5, raiseDecodeFailure, hn]

theorem selectGroup9_eq_failure_iff : selectGroup9 o = raiseDecodeFailure o ↔ fieldN o ≠ 0x0#4 := by
  by_cases hn : fieldN o = 0x0#4 <;> simp [selectGroup9, raiseDecodeFailure, hn]

theorem selectGroup8_eq_failure_iff :
    selectGroup8 o = raiseDecodeFailure o ↔ fieldN o ∈ [0x8#4, 0x9#4, 0xA#4, 0xB#4, 0xC#4, 0xD#4, 0xF#4] := by
  rcases nibble_cases (fieldN o) with hn | hn | hn | hn | hn | hn | hn | hn | hn | hn | hn | hn | hn | hn | hn | hn <;>
    simp [selectGroup8, raiseDecodeFailure, hn]

theorem selectGroupE_eq_failure_iff :
    selectGroupE o = raiseDecodeFailure o ↔ fieldKk o ≠ 0x9E#8 ∧ fieldKk o ≠ 0xA1#8 := by
  constructor
  · intro h
    constructor <;> intro hkk <;> simp [selectGroupE, raiseDecodeFailure, hkk] at h
  · rintro ⟨hskp, hsknp⟩
    exact selectGroupE_other (by simp [hskp, hsknp])

theorem selectGroupF_eq_failure_iff :
    selectGroupF o = raiseDecodeFailure o ↔
      fieldKk o ∉ [0x07#8, 0x0A#8, 0x15#8, 0x18#8, 0x1E#8, 0x29#8, 0x33#8, 0x55#8, 0x65#8] := by
  constructor
  · intro h hmem
    simp only [List.mem_cons, List.not_mem_nil, or_false] at hmem
    rcases hmem with hkk | hkk | hkk | hkk | hkk | hkk | hkk | hkk | hkk <;>
      simp [selectGroupF, raiseDecodeFailure, hkk] at h
  · intro hmem
    exact selectGroupF_other fun b hb hkk => hmem (hkk ▸ hb)

end

theorem ok_ne_raiseDecodeFailure {o : Opcode} {i : Instr} : .ok i ≠ raiseDecodeFailure o := nofun

/-- Settles O36: the six selectors fail exactly at their listed words, and the other ten groups never fail. -/
theorem illegalWordsAreExactlyTheListed : Obligations.IllegalWordsAreExactlyTheListed := by
  intro o
  change decode o = raiseDecodeFailure o ↔ _
  rcases nibble_cases (fieldG o) with hg | hg | hg | hg | hg | hg | hg | hg | hg | hg | hg | hg | hg | hg | hg | hg <;>
    simp [decode, hg, selectGroup0_eq_failure_iff, selectGroup5_eq_failure_iff, selectGroup8_eq_failure_iff,
      selectGroup9_eq_failure_iff, selectGroupE_eq_failure_iff, selectGroupF_eq_failure_iff, ok_ne_raiseDecodeFailure]

/-! ## The mask and match rows (30_encoding R62) -/

namespace OpcodeRow

theorem accepts_iff {r : OpcodeRow} {o : Opcode} :
    r.accepts o = true ↔ o &&& r.mask = r.value ∧ ∀ a, r.least = some a → a ≤ fieldNnn o := by
  obtain ⟨-, -, mask, value, least⟩ := r
  cases least <;> simp [accepts]

section
variable {r : OpcodeRow} {o : Opcode} (h : r.accepts o = true)
include h

/-- A field that the mask covers is the row's own. -/
theorem field_eq {start len : Nat} (hmask : r.mask.extractLsb' start len = BitVec.allOnes len) :
    o.extractLsb' start len = r.value.extractLsb' start len := by
  obtain ⟨hvalue, -⟩ := accepts_iff.1 h
  rw [← hvalue, BitVec.extractLsb'_and, hmask, BitVec.and_allOnes]

/-- A row whose mask covers every bit holds one word. -/
theorem exact_word {w : Opcode} (hmask : r.mask = BitVec.allOnes 16) (hw : r.value = w) : w = o := by
  obtain ⟨hvalue, -⟩ := accepts_iff.1 h
  rw [← hw, ← hvalue, hmask, BitVec.and_allOnes]

theorem least_le_of_accepts {a : Address} (hleast : r.least = some a) : a ≤ fieldNnn o :=
  (accepts_iff.1 h).2 a hleast

end

/-- Every opcode of the row is the word of a well-formed instruction that has the row's id and name: the converse of
`Laws.EncodingRow.Statement`. -/
def HoldsOnlyWords (r : OpcodeRow) : Prop :=
  ∀ o : Opcode, r.accepts o = true → ∃ i, encode i = o ∧ i.wellFormed = true ∧ opId i = r.id ∧ instrName i = r.name

theorem opcodeRows1_holdOnlyWords : ∀ r ∈ opcodeRows1, r.HoldsOnlyWords := by
  simp only [opcodeRows1, List.forall_mem_cons]
  exact ⟨fun _ h => ⟨.noArgCls, exact_word h rfl rfl, rfl, rfl, rfl⟩,
    fun _ h => ⟨.noArgRet, exact_word h rfl rfl, rfl, rfl, rfl⟩,
    fun _ h =>
      ⟨.addressArgSys _, group_address_word (field_eq h rfl), decide_eq_true (least_le_of_accepts h rfl), rfl, rfl⟩,
    fun _ h => ⟨.addressArgJp _, group_address_word (field_eq h rfl), rfl, rfl, rfl⟩,
    fun _ h => ⟨.addressArgCall _, group_address_word (field_eq h rfl), rfl, rfl, rfl⟩,
    fun _ h => ⟨.registerByteSe _ _, group_register_byte_word (field_eq h rfl) rfl, rfl, rfl, rfl⟩,
    fun _ h => ⟨.registerByteSne _ _, group_register_byte_word (field_eq h rfl) rfl, rfl, rfl, rfl⟩,
    fun _ h => ⟨.twoRegisterSe _ _, group_pair_nibble_word (field_eq h rfl) (field_eq h rfl), rfl, rfl, rfl⟩,
    fun _ h => ⟨.registerByteLd _ _, group_register_byte_word (field_eq h rfl) rfl, rfl, rfl, rfl⟩,
    nofun⟩

theorem opcodeRows2_holdOnlyWords : ∀ r ∈ opcodeRows2, r.HoldsOnlyWords := by
  simp only [opcodeRows2, List.forall_mem_cons]
  exact ⟨fun _ h => ⟨.registerByteAdd _ _, group_register_byte_word (field_eq h rfl) rfl, rfl, rfl, rfl⟩,
    fun _ h => ⟨.twoRegisterLd _ _, group_pair_nibble_word (field_eq h rfl) (field_eq h rfl), rfl, rfl, rfl⟩,
    fun _ h => ⟨.twoRegisterOr _ _, group_pair_nibble_word (field_eq h rfl) (field_eq h rfl), rfl, rfl, rfl⟩,
    fun _ h => ⟨.twoRegisterAnd _ _, group_pair_nibble_word (field_eq h rfl) (field_eq h rfl), rfl, rfl, rfl⟩,
    fun _ h => ⟨.twoRegisterXor _ _, group_pair_nibble_word (field_eq h rfl) (field_eq h rfl), rfl, rfl, rfl⟩,
    fun _ h => ⟨.twoRegisterAdd _ _, group_pair_nibble_word (field_eq h rfl) (field_eq h rfl), rfl, rfl, rfl⟩,
    fun _ h => ⟨.twoRegisterSub _ _, group_pair_nibble_word (field_eq h rfl) (field_eq h rfl), rfl, rfl, rfl⟩,
    fun _ h => ⟨.singleRegisterShr _ _, group_pair_nibble_word (field_eq h rfl) (field_eq h rfl), rfl, rfl, rfl⟩,
    fun _ h => ⟨.twoRegisterSubn _ _, group_pair_nibble_word (field_eq h rfl) (field_eq h rfl), rfl, rfl, rfl⟩,
    nofun⟩

theorem opcodeRows3_holdOnlyWords : ∀ r ∈ opcodeRows3, r.HoldsOnlyWords := by
  simp only [opcodeRows3, List.forall_mem_cons]
  exact ⟨fun _ h => ⟨.singleRegisterShl _ _, group_pair_nibble_word (field_eq h rfl) (field_eq h rfl), rfl, rfl, rfl⟩,
    fun _ h => ⟨.twoRegisterSne _ _, group_pair_nibble_word (field_eq h rfl) (field_eq h rfl), rfl, rfl, rfl⟩,
    fun _ h => ⟨.addressArgLd _, group_address_word (field_eq h rfl), rfl, rfl, rfl⟩,
    fun _ h => ⟨.addressArgJpadd _, group_address_word (field_eq h rfl), rfl, rfl, rfl⟩,
    fun _ h => ⟨.registerByteRnd _ _, group_register_byte_word (field_eq h rfl) rfl, rfl, rfl, rfl⟩,
    fun _ h => ⟨.draw _ _ _, group_pair_nibble_word (field_eq h rfl) rfl, rfl, rfl, rfl⟩,
    fun _ h => ⟨.singleRegisterSkp _, group_register_byte_word (field_eq h rfl) (field_eq h rfl), rfl, rfl, rfl⟩,
    fun _ h => ⟨.singleRegisterSknp _, group_register_byte_word (field_eq h rfl) (field_eq h rfl), rfl, rfl, rfl⟩,
    fun _ h => ⟨.singleRegisterDt2r _, group_register_byte_word (field_eq h rfl) (field_eq h rfl), rfl, rfl, rfl⟩,
    nofun⟩

theorem opcodeRows4_holdOnlyWords : ∀ r ∈ opcodeRows4, r.HoldsOnlyWords := by
  simp only [opcodeRows4, List.forall_mem_cons]
  exact ⟨fun _ h => ⟨.singleRegisterLdk _, group_register_byte_word (field_eq h rfl) (field_eq h rfl), rfl, rfl, rfl⟩,
    fun _ h => ⟨.singleRegisterR2dt _, group_register_byte_word (field_eq h rfl) (field_eq h rfl), rfl, rfl, rfl⟩,
    fun _ h => ⟨.singleRegisterR2st _, group_register_byte_word (field_eq h rfl) (field_eq h rfl), rfl, rfl, rfl⟩,
    fun _ h => ⟨.singleRegisterAdd _, group_register_byte_word (field_eq h rfl) (field_eq h rfl), rfl, rfl, rfl⟩,
    fun _ h => ⟨.singleRegisterLdf _, group_register_byte_word (field_eq h rfl) (field_eq h rfl), rfl, rfl, rfl⟩,
    fun _ h => ⟨.singleRegisterBcd _, group_register_byte_word (field_eq h rfl) (field_eq h rfl), rfl, rfl, rfl⟩,
    fun _ h => ⟨.singleRegisterRmem _, group_register_byte_word (field_eq h rfl) (field_eq h rfl), rfl, rfl, rfl⟩,
    fun _ h => ⟨.singleRegisterMemr _, group_register_byte_word (field_eq h rfl) (field_eq h rfl), rfl, rfl, rfl⟩,
    nofun⟩

theorem opcodeRows_holdOnlyWords : ∀ r ∈ opcodeRows, r.HoldsOnlyWords := by
  simp only [opcodeRows, List.forall_mem_append]
  exact ⟨⟨⟨opcodeRows1_holdOnlyWords, opcodeRows2_holdOnlyWords⟩, opcodeRows3_holdOnlyWords⟩,
    opcodeRows4_holdOnlyWords⟩

/-- The id names the row (10_state R30). -/
theorem eq_of_id_eq {r r' : OpcodeRow} (hr : r ∈ opcodeRows) (hr' : r' ∈ opcodeRows) (h : r.id = r'.id) : r = r' :=
  List.inj_on_of_nodup_map (f := id) (by decide) hr hr' h

end OpcodeRow

/-- The word of every well-formed instruction satisfies the row of the instruction's id. -/
theorem encode_satisfies_row (i : Instr) : Laws.EncodingRow.Statement i :=
  match i with
  | .noArgCls => Laws.EncodingRow.noArgCls
  | .noArgRet => Laws.EncodingRow.noArgRet
  | .addressArgSys _ => Laws.EncodingRow.addressArgSys _
  | .addressArgJp _ => Laws.EncodingRow.addressArgJp _
  | .addressArgCall _ => Laws.EncodingRow.addressArgCall _
  | .registerByteSe _ _ => Laws.EncodingRow.registerByteSe _ _
  | .registerByteSne _ _ => Laws.EncodingRow.registerByteSne _ _
  | .twoRegisterSe _ _ => Laws.EncodingRow.twoRegisterSe _ _
  | .registerByteLd _ _ => Laws.EncodingRow.registerByteLd _ _
  | .registerByteAdd _ _ => Laws.EncodingRow.registerByteAdd _ _
  | .twoRegisterLd _ _ => Laws.EncodingRow.twoRegisterLd _ _
  | .twoRegisterOr _ _ => Laws.EncodingRow.twoRegisterOr _ _
  | .twoRegisterAnd _ _ => Laws.EncodingRow.twoRegisterAnd _ _
  | .twoRegisterXor _ _ => Laws.EncodingRow.twoRegisterXor _ _
  | .twoRegisterAdd _ _ => Laws.EncodingRow.twoRegisterAdd _ _
  | .twoRegisterSub _ _ => Laws.EncodingRow.twoRegisterSub _ _
  | .singleRegisterShr _ _ => Laws.EncodingRow.singleRegisterShr _ _
  | .twoRegisterSubn _ _ => Laws.EncodingRow.twoRegisterSubn _ _
  | .singleRegisterShl _ _ => Laws.EncodingRow.singleRegisterShl _ _
  | .twoRegisterSne _ _ => Laws.EncodingRow.twoRegisterSne _ _
  | .addressArgLd _ => Laws.EncodingRow.addressArgLd _
  | .addressArgJpadd _ => Laws.EncodingRow.addressArgJpadd _
  | .registerByteRnd _ _ => Laws.EncodingRow.registerByteRnd _ _
  | .draw _ _ _ => Laws.EncodingRow.draw _ _ _
  | .singleRegisterSkp _ => Laws.EncodingRow.singleRegisterSkp _
  | .singleRegisterSknp _ => Laws.EncodingRow.singleRegisterSknp _
  | .singleRegisterDt2r _ => Laws.EncodingRow.singleRegisterDt2r _
  | .singleRegisterLdk _ => Laws.EncodingRow.singleRegisterLdk _
  | .singleRegisterR2dt _ => Laws.EncodingRow.singleRegisterR2dt _
  | .singleRegisterR2st _ => Laws.EncodingRow.singleRegisterR2st _
  | .singleRegisterAdd _ => Laws.EncodingRow.singleRegisterAdd _
  | .singleRegisterLdf _ => Laws.EncodingRow.singleRegisterLdf _
  | .singleRegisterBcd _ => Laws.EncodingRow.singleRegisterBcd _
  | .singleRegisterRmem _ => Laws.EncodingRow.singleRegisterRmem _
  | .singleRegisterMemr _ => Laws.EncodingRow.singleRegisterMemr _

section
variable {o : Opcode} {r : OpcodeRow}

/-- A legal opcode is in a row of the list, which has the id of its instruction. -/
theorem exists_row_of_decode {i : Instr} (h : decode o = .ok i) :
    ∃ r ∈ opcodeRows, r.id = opId i ∧ r.accepts o = true := by
  obtain ⟨r, hrow, -, haccepts⟩ := encode_satisfies_row i (Machine.decode_wellFormed h)
  rw [encode_of_decode h] at haccepts
  exact ⟨r, List.mem_of_find?_eq_some hrow, by simpa using List.find?_some hrow, haccepts⟩

/-- A row of the list holds exactly the opcodes that decode to its instruction. -/
theorem accepts_iff_decode (hr : r ∈ opcodeRows) :
    r.accepts o = true ↔ ∃ i, decode o = .ok i ∧ opId i = r.id ∧ instrName i = r.name := by
  constructor
  · intro h
    obtain ⟨i, hword, hwf, hid, hname⟩ := OpcodeRow.opcodeRows_holdOnlyWords r hr o h
    exact ⟨i, decode_of_encode_eq hword hwf, hid, hname⟩
  · rintro ⟨i, hi, hid, -⟩
    obtain ⟨r', hr', hid', haccepts⟩ := exists_row_of_decode hi
    rwa [OpcodeRow.eq_of_id_eq hr hr' (hid.symm.trans hid'.symm)]

/-- No opcode is in two rows: both would have the id of the one instruction it decodes to. -/
theorem row_unique {r' : OpcodeRow} (hr : r ∈ opcodeRows) (hr' : r' ∈ opcodeRows) (h : r.accepts o = true)
    (h' : r'.accepts o = true) : r = r' := by
  obtain ⟨i, hi, hid, -⟩ := (accepts_iff_decode hr).1 h
  obtain ⟨i', hi', hid', -⟩ := (accepts_iff_decode hr').1 h'
  obtain rfl : i = i' := Except.ok.inj (hi.symm.trans hi')
  exact OpcodeRow.eq_of_id_eq hr hr' (hid.symm.trans hid')

theorem decode_error_of_no_row (h : ∀ r ∈ opcodeRows, r.accepts o = false) : decode o = .error { raw := hex4 o } := by
  cases hdecode : decode o with
  | ok i =>
    obtain ⟨r, hr, -, haccepts⟩ := exists_row_of_decode hdecode
    simp [h r hr] at haccepts
  | error f => rw [decode_error_raw hdecode]

end

/-- Settles O40: a row holds the words of its instruction alone, every instruction's word is in its row, and the ids differ. -/
theorem instructionListSelectsTheDecodedRow : Obligations.InstructionListSelectsTheDecodedRow :=
  ⟨rfl, fun _ _ hr => accepts_iff_decode hr, fun _ _ hr _ hr' h h' => row_unique hr hr' h h',
    fun _ h => decode_error_of_no_row h⟩

/-! ## The legal words of a group, by what the validator looks at (30_encoding R69) -/

/-- A count that does not depend on a digit is taken once for each of its sixteen values. -/
theorem sum_over_nibbles (c : Nat) : (allNibbles.map fun _ => c).sum = 16 * c := by
  rw [List.map_const', List.sum_replicate, smul_eq_mul]
  rfl

section
variable {g : Nibble}

/-- A group that selects by its low nibble: each legal nibble counts for all 256 pairs of registers. -/
theorem countLegal_of_nibble {legal : Nibble → Bool} (h : ∀ x y n : Nibble, valid (g ++ x ++ y ++ n) = legal n) :
    countLegal g = 16 * (16 * allNibbles.countP legal) := by
  simp only [countLegal, h, sum_over_nibbles]

/-- A group that selects by its low byte: each legal byte counts for all 16 registers. -/
theorem countLegal_of_byte {legal : Byte → Bool} (h : ∀ x y n : Nibble, valid (g ++ x ++ y ++ n) = legal (y ++ n)) :
    countLegal g = 16 * (allNibbles.map fun y => allNibbles.countP fun n => legal (y ++ n)).sum := by
  simp only [countLegal, h, sum_over_nibbles]

end

section
variable (x y n : Nibble)

theorem valid_unchecked {g : Nibble} (hg : g ∈ uncheckedGroups) : valid (g ++ x ++ y ++ n) = true := by
  simp [valid, hg]

theorem valid_group5 : valid (0x5#4 ++ x ++ y ++ n) = (n == 0x0#4) := by
  simp [valid, uncheckedGroups, zeroNibbleCheck]

theorem valid_group9 : valid (0x9#4 ++ x ++ y ++ n) = (n == 0x0#4) := by
  simp [valid, uncheckedGroups, zeroNibbleCheck]

theorem valid_group8 : valid (0x8#4 ++ x ++ y ++ n) = group8Nibbles.contains n := by
  simp [valid, uncheckedGroups]

theorem valid_groupE : valid (0xE#4 ++ x ++ y ++ n) = groupEBytes.contains (y ++ n) := by
  simp [valid, uncheckedGroups]

theorem valid_groupF : valid (0xF#4 ++ x ++ y ++ n) = groupFBytes.contains (y ++ n) := by
  simp [valid, uncheckedGroups]

/-- Below the threshold, which the first digit of the address decides, group 0 has its two exact words. -/
theorem valid_group0 :
    valid (0x0#4 ++ x ++ y ++ n) = (decide (2#4 ≤ x) || group0Values.contains (x ++ (y ++ n))) := by
  have hbounds : boundsCheck (0x0#4 ++ x ++ y ++ n) = decide (2#4 ≤ x) := by
    rw [boundsCheck, decide_eq_decide, sysMinAddr_le_fieldNnn_iff, fieldX_nibbles]
  simp [valid, uncheckedGroups, hbounds]

end

/-- The legal words of a group that have a given second digit. -/
def countPage (g x : Nibble) : Nat :=
  (allNibbles.map fun y => allNibbles.countP fun n => valid (g ++ x ++ y ++ n)).sum

theorem countLegal_eq_sum (g : Nibble) : countLegal g = (allNibbles.map (countPage g)).sum := rfl

theorem countPage_group0_above {x : Nibble} (hx : 2#4 ≤ x) : countPage 0x0#4 x = 256 := by
  simp only [countPage, valid_group0, hx, decide_true, Bool.true_or, sum_over_nibbles]
  decide

/-- Group 0: two words with second digit 0, none with 1, and all 256 with each of the other fourteen. -/
theorem countLegal_group0 : countLegal 0x0#4 = 3586 := by
  have hpage0 : countPage 0x0#4 0x0#4 = 2 := by
    simp only [countPage, valid_group0]
    decide
  have hpage1 : countPage 0x0#4 0x1#4 = 0 := by
    simp only [countPage, valid_group0]
    decide
  have hge : ∀ x ∈ allNibbles.drop 2, 2#4 ≤ x := by decide
  have habove : (allNibbles.drop 2).map (countPage 0x0#4) = (allNibbles.drop 2).map fun _ => 256 :=
    List.map_congr_left fun x hx => countPage_group0_above (hge x hx)
  have hdigits : allNibbles = 0x0#4 :: 0x1#4 :: allNibbles.drop 2 := rfl
  rw [countLegal_eq_sum, hdigits, List.map_cons, List.map_cons, habove, List.sum_cons, List.sum_cons, hpage0, hpage1]
  rfl

theorem countLegal_group5 : countLegal 0x5#4 = 256 := by
  rw [countLegal_of_nibble valid_group5]
  decide

theorem countLegal_group8 : countLegal 0x8#4 = 2304 := by
  rw [countLegal_of_nibble valid_group8]
  decide

theorem countLegal_group9 : countLegal 0x9#4 = 256 := by
  rw [countLegal_of_nibble valid_group9]
  decide

theorem countLegal_groupE : countLegal 0xE#4 = 32 := by
  rw [countLegal_of_byte valid_groupE]
  decide

theorem countLegal_groupF : countLegal 0xF#4 = 144 := by
  rw [countLegal_of_byte valid_groupF]
  decide

theorem countLegal_unchecked {g : Nibble} (hg : g ∈ uncheckedGroups) : countLegal g = 4096 :=
  countLegal_of_nibble (legal := fun _ => true) fun x y n => valid_unchecked x y n hg

/-- Settles O37, group by group; the total is the sum over the six groups with a check and the ten without. -/
theorem legalWordsAreCounted : Obligations.LegalWordsAreCounted := by
  refine ⟨countLegal_group0, countLegal_group5, countLegal_group8, countLegal_group9, countLegal_groupE, countLegal_groupF,
    fun _ hg => countLegal_unchecked hg, ?_⟩
  have hunchecked : uncheckedGroups.map countLegal = uncheckedGroups.map fun _ => 4096 :=
    List.map_congr_left fun _ hg => countLegal_unchecked hg
  have hperm : allNibbles.Perm ([0x0#4, 0x5#4, 0x8#4, 0x9#4, 0xE#4, 0xF#4] ++ uncheckedGroups) := by decide
  rw [(hperm.map countLegal).sum_eq, List.map_append, hunchecked]
  simp only [List.map_cons, List.map_nil, countLegal_group0, countLegal_group5, countLegal_group8, countLegal_group9,
    countLegal_groupE, countLegal_groupF]
  decide

end Sys2Proof

namespace Sys2Proof.Machine

/-! ## A step and what it hands over, by what the decoder says (30_encoding R54) -/

/-- Settles O2: a step is one evaluation, which dispatches on the decoder's answer. -/
theorem stepRunsTheDecodedInstruction : Obligations.StepRunsTheDecodedInstruction := by
  intro s
  constructor <;> intro _ h <;> simp only [step, evaluate, presented_eq, h]

section
variable {s : State}

/-- A legal opcode hands over the record of its instruction. -/
theorem evaluates_of_decode_ok {i : Instr} (h : decode s.opcode_i = .ok i) :
    Evaluates s (.instruction (recordOf s.config (hex4 s.opcode_i) i)) :=
  evaluates_iff.2 (decodeResult_of_ok h).symm

/-- An illegal opcode hands over the failure with its own raw form. -/
theorem evaluates_of_decode_error {f : DecodeFailure} (h : decode s.opcode_i = .error f) :
    Evaluates s (.decodeFailure (hex4 s.opcode_i)) :=
  evaluates_iff.2 (decodeResult_of_error h).symm

/-- The word of a well-formed instruction hands over the record of that instruction. -/
theorem evaluates_of_word {i : Instr} (hword : encode i = s.opcode_i) (hwf : i.wellFormed = true) :
    Evaluates s (.instruction (recordOf s.config (hex4 s.opcode_i) i)) :=
  evaluates_of_decode_ok (decode_of_encode_eq hword hwf)

end

/-- Settles O20: each low byte of the table completes the word of its instruction, and the selector fails at the others. -/
theorem groupFSelectsByLowByteTable : Obligations.GroupFSelectsByLowByteTable := by
  intro s hg
  exact ⟨
    fun h => evaluates_of_word (i := .singleRegisterDt2r _) (group_register_byte_word hg h) rfl,
    fun h => evaluates_of_word (i := .singleRegisterLdk _) (group_register_byte_word hg h) rfl,
    fun h => evaluates_of_word (i := .singleRegisterR2dt _) (group_register_byte_word hg h) rfl,
    fun h => evaluates_of_word (i := .singleRegisterR2st _) (group_register_byte_word hg h) rfl,
    fun h => evaluates_of_word (i := .singleRegisterAdd _) (group_register_byte_word hg h) rfl,
    fun h => evaluates_of_word (i := .singleRegisterLdf _) (group_register_byte_word hg h) rfl,
    fun h => evaluates_of_word (i := .singleRegisterBcd _) (group_register_byte_word hg h) rfl,
    fun h => evaluates_of_word (i := .singleRegisterRmem _) (group_register_byte_word hg h) rfl,
    fun h => evaluates_of_word (i := .singleRegisterMemr _) (group_register_byte_word hg h) rfl,
    fun h => evaluates_of_decode_error ((decode_groupF hg).trans (selectGroupF_eq_failure_iff.2 h))⟩

end Sys2Proof.Machine

namespace Sys2Proof

/-- A word of the pattern `gnnn` whose address is known, put together again from its group and that address. -/
theorem group_known_address_word {o : Opcode} {g : Nibble} {a : Address} (hg : fieldG o = g) (ha : fieldNnn o = a) :
    g ++ a = o := by
  rw [← ha, group_address_word hg]

end Sys2Proof

namespace Sys2Proof.Machine

/-! ## Group 0 and the address instructions (40_group_0, 41_address_arg) -/

/-- Settles O13: from the threshold on the word is that of SYS, the two exact addresses complete the words of CLS and RET,
and the selector fails at the others. -/
theorem group0SelectsByThresholdThenExactly : Obligations.Group0SelectsByThresholdThenExactly := by
  intro s hg
  exact ⟨
    fun hmin => evaluates_of_word (i := .addressArgSys _) (group_address_word hg) (decide_eq_true hmin),
    fun hcls => evaluates_of_word (i := .noArgCls) (group_known_address_word hg hcls) rfl,
    fun hret => evaluates_of_word (i := .noArgRet) (group_known_address_word hg hret) rfl,
    fun hlt hcls hret => evaluates_of_decode_error
      ((decode_group0 hg).trans (selectGroup0_eq_failure_iff.2 ⟨hlt, hcls, hret⟩))⟩

/-- Driving a completed instruction's ports with the presented raw shows exactly those ports: the rendering path spells
`hex4` of the input (48_raw_rendering R166, R167). -/
theorem drive_eq_shows (s : State) (variant : BitVec 3) (op : BitVec 6) (x y n : BitVec 4) (kk : BitVec 8)
    (nnn : BitVec 12) :
    drive { valid_o := 1#1, variant_o := variant, op_o := op, x_o := x, y_o := y, n_o := n, kk_o := kk, nnn_o := nnn,
            raw_o := presentedRaw s } s = shows s variant op x y n kk nnn := by
  rw [presentedRaw_eq, ← hex4_toPort]
  rfl

theorem driveNoArg_eq_shows (op : BitVec 6) (s : State) :
    driveNoArg op s = shows s 1#3 op 0#4 0#4 0#4 0#8 0#12 :=
  drive_eq_shows s 1#3 op 0#4 0#4 0#4 0#8 0#12

theorem driveAddressArg_eq_shows (op : BitVec 6) (address : Address) (s : State) :
    driveAddressArg op address s = shows s 2#3 op 0#4 0#4 0#4 0#8 address :=
  drive_eq_shows s 2#3 op 0#4 0#4 0#4 0#8 address

/-- Settles O4: CLS and RET drive the NoArg ports with the ids 1 and 2. -/
theorem noArgInstructionsDriveTheirPorts : Obligations.NoArgInstructionsDriveTheirPorts := by
  intro s
  exact ⟨driveNoArg_eq_shows 1#6 s, driveNoArg_eq_shows 2#6 s⟩

/-- Settles O5: each of the five drives the AddressArg ports with its id and its address. The bound on a SYS address is not
needed, for the meaning checks nothing (log entry 12). -/
theorem addressArgInstructionsDriveTheirPorts : Obligations.AddressArgInstructionsDriveTheirPorts := by
  intro s address
  exact ⟨fun _ => driveAddressArg_eq_shows 3#6 address s, driveAddressArg_eq_shows 4#6 address s,
    driveAddressArg_eq_shows 5#6 address s, driveAddressArg_eq_shows 21#6 address s,
    driveAddressArg_eq_shows 22#6 address s⟩

end Sys2Proof.Machine

namespace Sys2Proof.Machine

/-- Settles O14: in each of the four groups every address completes the word of the group's instruction, which checks
nothing. -/
theorem addressGroupsAlwaysGiveTheLowTwelveBits : Obligations.AddressGroupsAlwaysGiveTheLowTwelveBits := by
  intro s
  exact ⟨
    fun hg => evaluates_of_word (i := .addressArgJp _) (group_address_word hg) rfl,
    fun hg => evaluates_of_word (i := .addressArgCall _) (group_address_word hg) rfl,
    fun hg => evaluates_of_word (i := .addressArgLd _) (group_address_word hg) rfl,
    fun hg => evaluates_of_word (i := .addressArgJpadd _) (group_address_word hg) rfl⟩

end Sys2Proof.Machine

namespace Sys2Proof.Machine

/-! ## The register and byte instructions (42_register_byte) -/

/-- Settles O15: in each of the five groups the decoder answers the group's instruction with the register and byte fields,
whatever they hold. -/
theorem registerByteGroupsAlwaysGiveRegisterAndByte : Obligations.RegisterByteGroupsAlwaysGiveRegisterAndByte := by
  intro s
  exact ⟨
    fun hg => evaluates_of_decode_ok (decode_group3 hg),
    fun hg => evaluates_of_decode_ok (decode_group4 hg),
    fun hg => evaluates_of_decode_ok (decode_group6 hg),
    fun hg => evaluates_of_decode_ok (decode_group7 hg),
    fun hg => evaluates_of_decode_ok (decode_groupC hg)⟩

theorem driveRegisterByte_eq_shows (op : BitVec 6) (register : RegIndex) (byte : Byte) (s : State) :
    driveRegisterByte op register byte s = shows s 3#3 op register 0#4 0#4 byte 0#12 :=
  drive_eq_shows s 3#3 op register 0#4 0#4 byte 0#12

/-- Settles O6: each of the five drives the RegisterByte ports with its id, its register and its byte. -/
theorem registerByteInstructionsDriveTheirPorts : Obligations.RegisterByteInstructionsDriveTheirPorts := by
  intro s x kk
  exact ⟨driveRegisterByte_eq_shows 6#6 x kk s, driveRegisterByte_eq_shows 7#6 x kk s,
    driveRegisterByte_eq_shows 9#6 x kk s, driveRegisterByte_eq_shows 10#6 x kk s,
    driveRegisterByte_eq_shows 23#6 x kk s⟩

end Sys2Proof.Machine

namespace Sys2Proof.Machine

/-! ## The register pair instructions (43_register_pair_compare, 44_group_8) -/

/-- Settles O16: with the low nibble 0 every pair completes the word of the group's instruction, and the selector fails at
the other nibbles. -/
theorem pairCompareGroupsNeedAZeroLowNibble : Obligations.PairCompareGroupsNeedAZeroLowNibble := by
  intro s
  constructor <;> intro hg
  · exact ⟨
      fun hn => evaluates_of_word (i := .twoRegisterSe _ _) (group_pair_nibble_word hg hn) rfl,
      fun hn => evaluates_of_decode_error ((decode_group5 hg).trans (selectGroup5_eq_failure_iff.2 hn))⟩
  · exact ⟨
      fun hn => evaluates_of_word (i := .twoRegisterSne _ _) (group_pair_nibble_word hg hn) rfl,
      fun hn => evaluates_of_decode_error ((decode_group9 hg).trans (selectGroup9_eq_failure_iff.2 hn))⟩

theorem driveTwoRegister_eq_shows (op : BitVec 6) (vx vy : RegIndex) (s : State) :
    driveTwoRegister op vx vy s = shows s 4#3 op vx vy 0#4 0#8 0#12 :=
  drive_eq_shows s 4#3 op vx vy 0#4 0#8 0#12

/-- Settles O7: each of the nine drives the TwoRegister ports with its id and its pair. -/
theorem twoRegisterInstructionsDriveTheirPorts : Obligations.TwoRegisterInstructionsDriveTheirPorts := by
  intro s x y
  exact ⟨driveTwoRegister_eq_shows 8#6 x y s, driveTwoRegister_eq_shows 11#6 x y s,
    driveTwoRegister_eq_shows 12#6 x y s, driveTwoRegister_eq_shows 13#6 x y s,
    driveTwoRegister_eq_shows 14#6 x y s, driveTwoRegister_eq_shows 15#6 x y s,
    driveTwoRegister_eq_shows 16#6 x y s, driveTwoRegister_eq_shows 18#6 x y s,
    driveTwoRegister_eq_shows 20#6 x y s⟩

end Sys2Proof.Machine

namespace Sys2Proof.Machine

/-! ## Group 8: the low nibble selects, and `SHIFT_RETAIN_Y` adds the second nibble of the shifts (44_group_8) -/

theorem shiftYField_of_retain {c : Config} (h : c.shiftRetainY = true) (y : RegIndex) : shiftYField c y = some y := by
  simp [shiftYField, h]

theorem shiftYField_of_discard {c : Config} (h : c.shiftRetainY = false) (y : RegIndex) : shiftYField c y = none := by
  simp [shiftYField, h]

/-- A word of group 8 with a shift's low nibble hands over its first register alone in the build that discards the second. -/
theorem evaluates_shift_of_discard {s : State} (hg : fieldG s.opcode_i = 0x8#4) (hc : s.config.shiftRetainY = false) :
    (fieldN s.opcode_i = 0x6#4 →
      Evaluates s (.instruction (.singleRegister .shr (fieldX s.opcode_i) none (hex4 s.opcode_i)))) ∧
    (fieldN s.opcode_i = 0xE#4 →
      Evaluates s (.instruction (.singleRegister .shl (fieldX s.opcode_i) none (hex4 s.opcode_i)))) := by
  rw [← shiftYField_of_discard hc (fieldY s.opcode_i)]
  exact ⟨
    fun hn => evaluates_of_word (i := .singleRegisterShr _ _) (group_pair_nibble_word hg hn) rfl,
    fun hn => evaluates_of_word (i := .singleRegisterShl _ _) (group_pair_nibble_word hg hn) rfl⟩

/-- Settles O17: each legal low nibble completes the word of its instruction for every pair of registers, and the selector
fails at the other seven. -/
theorem group8SelectsByLowNibble : Obligations.Group8SelectsByLowNibble := by
  intro s hg
  exact ⟨
    fun hn => evaluates_of_word (i := .twoRegisterLd _ _) (group_pair_nibble_word hg hn) rfl,
    fun hn => evaluates_of_word (i := .twoRegisterOr _ _) (group_pair_nibble_word hg hn) rfl,
    fun hn => evaluates_of_word (i := .twoRegisterAnd _ _) (group_pair_nibble_word hg hn) rfl,
    fun hn => evaluates_of_word (i := .twoRegisterXor _ _) (group_pair_nibble_word hg hn) rfl,
    fun hn => evaluates_of_word (i := .twoRegisterAdd _ _) (group_pair_nibble_word hg hn) rfl,
    fun hn => evaluates_of_word (i := .twoRegisterSub _ _) (group_pair_nibble_word hg hn) rfl,
    fun hn => evaluates_of_word (i := .twoRegisterSubn _ _) (group_pair_nibble_word hg hn) rfl,
    evaluates_shift_of_discard hg,
    fun hn => evaluates_of_decode_error ((decode_group8 hg).trans (selectGroup8_eq_failure_iff.2 hn))⟩

@[simp] theorem settle_out (s : State) : (settle s).out = portsOfResult (decodeResult s.config s.opcode_i) := by
  rw [settle_eq]

/-- The id on `op_o` is the instruction's, in both builds (44_group_8 R129: the ids stay 17 and 19). -/
@[simp] theorem portsOfRecord_recordOf_op_o (c : Config) (raw : Raw) (i : Instr) :
    (portsOfRecord (recordOf c raw i)).op_o = opId i := by
  cases i <;> rfl

/-- The record of an instruction other than the two shifts is the same in both builds (44_group_8 R129). -/
theorem recordOf_eq_of_not_shift {i : Instr} (h : isShiftOp (opId i) = false) (c c' : Config) (raw : Raw) :
    recordOf c raw i = recordOf c' raw i := by
  cases i with
  | singleRegisterShr _ _ | singleRegisterShl _ _ => cases h
  | _ => rfl

/-- The record of a decoded shift: the build decides only whether the second nibble of the opcode is its field `shift_y`. -/
theorem recordOf_decoded_shift {o : Opcode} {i : Instr} (hdecode : decode o = .ok i) (h : isShiftOp (opId i) = true)
    (raw : Raw) : ∃ tag x, ∀ c, recordOf c raw i = .singleRegister tag x (shiftYField c (fieldY o)) raw := by
  have hword : encode i = o := encode_of_decode hdecode
  cases i with
  | singleRegisterShr x y =>
    have hy : fieldY o = y := hword ▸ fieldY_nibbles 0x8#4 x y 0x6#4
    exact ⟨.shr, x, fun c => by rw [hy]; rfl⟩
  | singleRegisterShl x y =>
    have hy : fieldY o = y := hword ▸ fieldY_nibbles 0x8#4 x y 0xE#4
    exact ⟨.shl, x, fun c => by rw [hy]; rfl⟩
  | _ => cases h

/-- Settles O21: the two builds differ in the record of a decoded shift alone, and there in `shift_y` alone. -/
theorem shiftRetainYAddsOnlyTheSecondNibble : Obligations.ShiftRetainYAddsOnlyTheSecondNibble := by
  intro s
  refine ⟨_, _, step_eq _, step_eq _, ?_⟩
  simp only [settle_out, settle_result]
  cases hdecode : decode s.opcode_i with
  | error f =>
    rw [decodeResult_of_error hdecode, decodeResult_of_error hdecode]
    exact ⟨nofun, fun _ => ⟨rfl, rfl⟩⟩
  | ok i =>
    rw [decodeResult_of_ok hdecode, decodeResult_of_ok hdecode]
    constructor <;> intro hop <;> rw [portsOfResult, portsOfRecord_recordOf_op_o] at hop
    · obtain ⟨tag, x, hrecord⟩ := recordOf_decoded_shift hdecode hop (hex4 s.opcode_i)
      rw [hrecord, hrecord, shiftYField_of_retain rfl, shiftYField_of_discard rfl]
      exact ⟨rfl, rfl, tag, x, hex4 s.opcode_i, rfl, rfl⟩
    · rw [recordOf_eq_of_not_shift hop]
      exact ⟨rfl, rfl⟩

theorem driveShift_eq_shows (op : BitVec 6) (register y : RegIndex) (s : State) :
    driveShift op register y s = shows s 5#3 op register (shiftYPort s.config y) 0#4 0#8 0#12 :=
  drive_eq_shows s 5#3 op register (shiftYPort s.config y) 0#4 0#8 0#12

/-- Settles O8: both shifts drive the SingleRegister ports with their id and their register, and `y_o` as the build has it. -/
theorem shiftInstructionsDriveTheirPorts : Obligations.ShiftInstructionsDriveTheirPorts := by
  intro s x y
  have hdrive := fun op => driveShift_eq_shows op x y s
  constructor <;> intro hc
  · simp only [shiftYPort_of_discard hc] at hdrive
    exact ⟨hdrive 17#6, hdrive 19#6⟩
  · simp only [shiftYPort_of_retain hc] at hdrive
    exact ⟨hdrive 17#6, hdrive 19#6⟩

end Sys2Proof.Machine

namespace Sys2Proof.Machine

/-! ## Draw: the low nibble is a field, not a selector (45_draw) -/

/-- Settles O18: in group D the decoder answers Draw with the two register fields and the low nibble as its height, whatever
they hold. -/
theorem groupDAlwaysGivesDraw : Obligations.GroupDAlwaysGivesDraw := by
  intro s hg
  exact evaluates_of_decode_ok (decode_groupD hg)

theorem driveDraw_eq_shows (vx vy : RegIndex) (n : Nibble) (s : State) :
    driveDraw vx vy n s = shows s 6#3 24#6 vx vy n 0#8 0#12 :=
  drive_eq_shows s 6#3 24#6 vx vy n 0#8 0#12

/-- Settles O11: Draw drives its ports with its pair and its height, which the meaning does not check. -/
theorem drawDrivesItsPorts : Obligations.DrawDrivesItsPorts := by
  intro s x y n
  exact driveDraw_eq_shows x y n s

end Sys2Proof.Machine

namespace Sys2Proof.Machine

/-! ## The key instructions: the low byte is a selector, not a field (46_group_E) -/

/-- Settles O19: each of the two low bytes completes the word of its instruction for every register, and the selector fails at
the others. -/
theorem groupESelectsByLowByte : Obligations.GroupESelectsByLowByte := by
  intro s hg
  exact ⟨
    fun hskp => evaluates_of_word (i := .singleRegisterSkp _) (group_register_byte_word hg hskp) rfl,
    fun hsknp => evaluates_of_word (i := .singleRegisterSknp _) (group_register_byte_word hg hsknp) rfl,
    fun hskp hsknp => evaluates_of_decode_error
      ((decode_groupE hg).trans (selectGroupE_eq_failure_iff.2 ⟨hskp, hsknp⟩))⟩

theorem driveSingleRegister_eq_shows (op : BitVec 6) (register : RegIndex) (s : State) :
    driveSingleRegister op register s = shows s 5#3 op register 0#4 0#4 0#8 0#12 :=
  drive_eq_shows s 5#3 op register 0#4 0#4 0#8 0#12

/-- Settles O9: SKP and SKNP drive the SingleRegister ports with the ids 25 and 26. -/
theorem groupEInstructionsDriveTheirPorts : Obligations.GroupEInstructionsDriveTheirPorts := by
  intro s x
  exact ⟨driveSingleRegister_eq_shows 25#6 x s, driveSingleRegister_eq_shows 26#6 x s⟩

end Sys2Proof.Machine

namespace Sys2Proof.Machine

/-! ## The group-F instructions: the low byte is a selector, not a field (47_group_F) -/

/-- Settles O10: each of the nine drives the SingleRegister ports with its id and its register. -/
theorem groupFInstructionsDriveTheirPorts : Obligations.GroupFInstructionsDriveTheirPorts := by
  intro s x
  exact ⟨driveSingleRegister_eq_shows 27#6 x s, driveSingleRegister_eq_shows 28#6 x s,
    driveSingleRegister_eq_shows 29#6 x s, driveSingleRegister_eq_shows 30#6 x s,
    driveSingleRegister_eq_shows 31#6 x s, driveSingleRegister_eq_shows 32#6 x s,
    driveSingleRegister_eq_shows 33#6 x s, driveSingleRegister_eq_shows 34#6 x s,
    driveSingleRegister_eq_shows 35#6 x s⟩

end Sys2Proof.Machine

namespace Sys2Proof.Machine

/-! ## The raw form: it is on `raw_o` and in every result, and it determines the opcode (48_raw_rendering) -/

/-- The four digits of `raw` read back give the opcode (R168 (a)). -/
@[simp] theorem unhex4_hex4 (o : Opcode) : unhex4 (hex4 o) = some o := by
  simp only [unhex4, hex4, unhexDigit_hexDigit, nibbles_append]

@[simp] theorem rawOfResult_recordOf (c : Config) (raw : Raw) (i : Instr) :
    rawOfResult (.instruction (recordOf c raw i)) = raw := by
  cases i <;> rfl

/-- The result of an opcode carries that opcode's raw form, record or failure (10_state R25, R27). -/
@[simp] theorem rawOfResult_decodeResult (c : Config) (o : Opcode) : rawOfResult (decodeResult c o) = hex4 o := by
  cases h : decode o with
  | ok i => rw [decodeResult_of_ok h, rawOfResult_recordOf]
  | error f => rw [decodeResult_of_error h, rawOfResult]

/-- Whatever the result, `raw_o` carries its raw form (R32, R167). -/
@[simp] theorem portsOfResult_raw_o (r : Result) : (portsOfResult r).raw_o = (rawOfResult r).toPort := by
  cases r with
  | instruction record => cases record <;> rfl
  | decodeFailure raw => rfl

/-- Settles O32: a step settles the outputs, whose `raw_o` is that of the opcode's result. -/
theorem rawIsDrivenForEveryOpcode : Obligations.RawIsDrivenForEveryOpcode := by
  intro s
  refine ⟨settle s, _, step_eq s, ?_, settle_result s, rawOfResult_decodeResult s.config s.opcode_i⟩
  rw [settle_out, portsOfResult_raw_o, rawOfResult_decodeResult, hex4_toPort, rawOfPort_rawPort]

/-- Settles O33, by reading back the four digits and the four codes. -/
theorem rawReadsBackAsTheOpcode : Obligations.RawReadsBackAsTheOpcode := by
  intro o
  exact ⟨unhex4_hex4 o, rawOfPort_rawPort o, rawPortIsHex_rawPort o⟩

end Sys2Proof.Machine

namespace Sys2Proof.Machine

/-! ## The status outputs are all or nothing (49_instruction_validator R184) -/

/-- Coherent outputs are those of the failure, or `variant_o` is the code of the variant of `op_o`. -/
theorem failure_or_variant_of_coherent {c : Config} {p : Ports} (h : portsCoherent c p = true) :
    p = portsFailure p.raw_o ∨
      p.valid_o = 1#1 ∧ ∃ v, variantOfOp p.op_o = some v ∧ p.variant_o = variantCode v := by
  simp only [portsCoherent, Bool.and_eq_true] at h
  obtain ⟨-, hcase⟩ := h
  split at hcase
  next hvalid =>
    cases hv : variantOfOp p.op_o with
    | none => simp [hv] at hcase
    | some v =>
      simp only [hv, Bool.and_eq_true, beq_iff_eq] at hcase
      obtain ⟨⟨hvariant, -⟩, -⟩ := hcase
      exact .inr ⟨hvalid, v, rfl, hvariant⟩
  next => exact .inl (of_decide_eq_true hcase)

/-- The variant codes are 1 to 6 (10_state R29). -/
theorem variantCode_range (v : Variant) : 1#3 ≤ variantCode v ∧ variantCode v ≤ 6#3 := by
  cases v <;> decide

/-- The ids of instructions are 1 to 35 (10_state R30). -/
theorem op_range_of_variantOfOp {op : BitVec 6} {v : Variant} (h : variantOfOp op = some v) : 1#6 ≤ op ∧ op ≤ 35#6 := by
  have hrange : ∀ op : BitVec 6, (variantOfOp op).isSome = true → 1#6 ≤ op ∧ op ≤ 35#6 := by decide
  exact hrange op (by rw [h]; rfl)

/-- Settles O31: a step leaves coherent outputs, which are those of the failure or have the codes of one instruction id. -/
theorem outputsAreAllOrNothing : Obligations.OutputsAreAllOrNothing := by
  intro s t h
  obtain ⟨hcoherent, -⟩ := everyStepLeavesCoherentSettledOutputs s t h
  obtain hfailure | ⟨hvalid, v, hv, hvariant⟩ := failure_or_variant_of_coherent hcoherent
  · rw [hfailure]
    simp
  · have hcode := variantCode_range v
    have hop := op_range_of_variantOfOp hv
    have hcode_ne : variantCode v ≠ 0#3 := by
      intro e
      simp [e] at hcode
    have hop_ne : t.out.op_o ≠ 0#6 := by
      intro e
      simp [e] at hop
    simp [hvalid, hv, hvariant, hcode, hop, hcode_ne, hop_ne]

end Sys2Proof.Machine

namespace Sys2Proof

/-! ## The digits below the group, where a word is put together from an address or a byte (30_encoding R53) -/

section
variable (g : Nibble) (x : RegIndex) (kk : Byte) (a : Address)

@[simp] theorem fieldX_group_address : fieldX (g ++ a) = a.extractLsb' 8 4 :=
  BitVec.extractLsb'_append_eq_of_add_le (by decide)

@[simp] theorem fieldY_group_address : fieldY (g ++ a) = a.extractLsb' 4 4 :=
  BitVec.extractLsb'_append_eq_of_add_le (by decide)

@[simp] theorem fieldN_group_address : fieldN (g ++ a) = a.extractLsb' 0 4 :=
  BitVec.extractLsb'_append_eq_of_add_le (by decide)

@[simp] theorem fieldY_group_register_byte : fieldY (g ++ x ++ kk) = kk.extractLsb' 4 4 :=
  BitVec.extractLsb'_append_eq_of_add_le (by decide)

@[simp] theorem fieldN_group_register_byte : fieldN (g ++ x ++ kk) = kk.extractLsb' 0 4 :=
  BitVec.extractLsb'_append_eq_of_add_le (by decide)

end

end Sys2Proof

namespace Sys2Proof.Machine

/-! ## The fields of a record are the digits of its raw form (49_instruction_validator R183) -/

/-- The field `shift_y`, where it is present, is the second nibble (44_group_8 R129). -/
theorem eq_of_shiftYField_eq_some {c : Config} {y y' : RegIndex} (h : shiftYField c y = some y') : y' = y := by
  unfold shiftYField at h
  split at h <;> cases h
  rfl

/-- An instruction's fields stand in its own word at the places of the digits: `encode` puts them there, and the extractors read
them back. Only the shifts may leave one out. -/
theorem fieldsAreDigits_recordOf_encode (c : Config) (i : Instr) :
    fieldsAreDigits (recordOf c (hex4 (encode i)) i) := by
  cases i with
  | singleRegisterShr _ _ | singleRegisterShl _ _ =>
    simp only [recordOf, fieldsAreDigits, encode, hex4, fieldX_nibbles, fieldY_nibbles, true_and]
    exact fun _ h => congrArg hexDigit (eq_of_shiftYField_eq_some h)
  | _ => simp [recordOf, fieldsAreDigits, encode, hex4]

/-- Settles O34: a legal opcode is the word of its instruction, so its digits are the fields; and `raw` spells the opcode,
which decodes again to the same result. -/
theorem fieldsAreTheDigitsOfRaw : Obligations.FieldsAreTheDigitsOfRaw := by
  intro s r hr
  obtain rfl := evaluates_iff.1 hr
  constructor
  · intro record hrecord
    cases h : decode s.opcode_i with
    | ok i =>
      rw [decodeResult_of_ok h] at hrecord
      cases hrecord
      have hdigits := fieldsAreDigits_recordOf_encode s.config i
      rwa [encode_of_decode h] at hdigits
    | error f =>
      rw [decodeResult_of_error h] at hrecord
      cases hrecord
  · rw [rawOfResult_decodeResult, unhex4_hex4, Option.map_some]

end Sys2Proof.Machine

namespace Sys2Proof

/-! ## The closed form of `valid` is the decoder's verdict (49_instruction_validator R175 to R180) -/

section
variable {o : Opcode}

theorem boundsCheck_eq_false_iff : boundsCheck o = false ↔ fieldNnn o < 0x200#12 := by
  rw [boundsCheck, decide_eq_false_iff_not, BitVec.not_le, sysMinAddr]

theorem zeroNibbleCheck_eq_false_iff : zeroNibbleCheck o = false ↔ fieldN o ≠ 0x0#4 :=
  beq_eq_false_iff_ne

/-- The low nibbles outside the nine of group 8 are the other seven. -/
theorem not_mem_group8Nibbles_iff {n : Nibble} :
    n ∉ group8Nibbles ↔ n ∈ [0x8#4, 0x9#4, 0xA#4, 0xB#4, 0xC#4, 0xD#4, 0xF#4] := by
  revert n
  decide

/-- The words the closed form refuses are the decoder's illegal words (30_encoding R64 to R68), group by group: a group's
check fails at its listed words, and the ten groups without a check refuse nothing. -/
theorem valid_eq_false_iff : valid o = false ↔ decode o = .error { raw := hex4 o } := by
  rw [illegalWordsAreExactlyTheListed o]
  rcases nibble_cases (fieldG o) with hg | hg | hg | hg | hg | hg | hg | hg | hg | hg | hg | hg | hg | hg | hg | hg <;>
    simp [valid, hg, uncheckedGroups, boundsCheck_eq_false_iff, zeroNibbleCheck_eq_false_iff, not_mem_group8Nibbles_iff,
      group0Values, groupEBytes, groupFBytes]

/-- An opcode decodes to an instruction exactly when it does not decode to the failure that carries its raw form. -/
theorem exists_decode_ok_iff : (∃ i, decode o = .ok i) ↔ decode o ≠ .error { raw := hex4 o } := by
  cases h : decode o with
  | ok i => simp
  | error f => simp [decode_error_raw h]

theorem valid_iff_exists_decode_ok : valid o = true ↔ ∃ i, decode o = .ok i := by
  rw [exists_decode_ok_iff, ne_eq, ← valid_eq_false_iff, Bool.not_eq_false]

end

end Sys2Proof

namespace Sys2Proof.Machine

/-- `valid_o` is 1 on the ports of the result of exactly the legal opcodes (10_state R28, R33). -/
theorem portsOfResult_valid_o_iff (c : Config) (o : Opcode) :
    (portsOfResult (decodeResult c o)).valid_o = 1#1 ↔ ∃ i, decode o = .ok i := by
  cases h : decode o with
  | ok i => simp [decodeResult_of_ok h, portsOfResult]
  | error f => simp [decodeResult_of_error h, portsOfResult]

/-- Settles O35: the closed form refuses exactly the decoder's illegal words, and a step shows the ports of the opcode's
result. -/
theorem validatorAgreesWithDecoder : Obligations.ValidatorAgreesWithDecoder := by
  constructor
  · exact fun _ => valid_iff_exists_decode_ok
  · intro s t h
    obtain rfl : settle s = t := by simpa [step_eq] using h
    rw [settle_out, portsOfResult_valid_o_iff, valid_iff_exists_decode_ok]

end Sys2Proof.Machine

namespace Sys2Proof.Machine

/-! ## What a record without its raw form tells of its opcode (49_instruction_validator R185 (k)) -/

/-- The instruction a record stands for, where its `shift_y` is kept: a left inverse of `recordOf`. An absent `shift_y` reads
as 0. -/
def instrOfRecord (r : InstrRecord) : Instr :=
  match r with
  | .noArg .cls _ => .noArgCls
  | .noArg .ret _ => .noArgRet
  | .addressArg .sys address _ => .addressArgSys address
  | .addressArg .jp address _ => .addressArgJp address
  | .addressArg .call address _ => .addressArgCall address
  | .addressArg .ld address _ => .addressArgLd address
  | .addressArg .jpadd address _ => .addressArgJpadd address
  | .registerByte .se register byte _ => .registerByteSe register byte
  | .registerByte .sne register byte _ => .registerByteSne register byte
  | .registerByte .ld register byte _ => .registerByteLd register byte
  | .registerByte .add register byte _ => .registerByteAdd register byte
  | .registerByte .rnd register byte _ => .registerByteRnd register byte
  | .twoRegister .se vx vy _ => .twoRegisterSe vx vy
  | .twoRegister .ld vx vy _ => .twoRegisterLd vx vy
  | .twoRegister .or vx vy _ => .twoRegisterOr vx vy
  | .twoRegister .and vx vy _ => .twoRegisterAnd vx vy
  | .twoRegister .xor vx vy _ => .twoRegisterXor vx vy
  | .twoRegister .add vx vy _ => .twoRegisterAdd vx vy
  | .twoRegister .sub vx vy _ => .twoRegisterSub vx vy
  | .twoRegister .subn vx vy _ => .twoRegisterSubn vx vy
  | .twoRegister .sne vx vy _ => .twoRegisterSne vx vy
  | .singleRegister .shr register shiftY _ => .singleRegisterShr register (shiftY.getD 0#4)
  | .singleRegister .shl register shiftY _ => .singleRegisterShl register (shiftY.getD 0#4)
  | .singleRegister .skp register _ _ => .singleRegisterSkp register
  | .singleRegister .sknp register _ _ => .singleRegisterSknp register
  | .singleRegister .dt2r register _ _ => .singleRegisterDt2r register
  | .singleRegister .ldk register _ _ => .singleRegisterLdk register
  | .singleRegister .r2dt register _ _ => .singleRegisterR2dt register
  | .singleRegister .r2st register _ _ => .singleRegisterR2st register
  | .singleRegister .add register _ _ => .singleRegisterAdd register
  | .singleRegister .ldf register _ _ => .singleRegisterLdf register
  | .singleRegister .bcd register _ _ => .singleRegisterBcd register
  | .singleRegister .rmem register _ _ => .singleRegisterRmem register
  | .singleRegister .memr register _ _ => .singleRegisterMemr register
  | .draw vx vy n _ => .draw vx vy n

/-- In the build that retains the second nibble a record gives its instruction back. -/
theorem instrOfRecord_recordOf_retain (raw : Raw) (i : Instr) :
    instrOfRecord (recordOf { shiftRetainY := true } raw i) = i := by
  cases i <;> rfl

section
variable {c : Config} {raw : Raw} {i i' : Instr}

/-- Equal records are records of the same instruction id. -/
theorem opId_eq_of_recordOf_eq (h : recordOf c raw i = recordOf c raw i') : opId i = opId i' := by
  rw [← portsOfRecord_recordOf_op_o c raw i, h, portsOfRecord_recordOf_op_o]

/-- In both builds a record that is no shift's gives its instruction back, for it is the same in the build that retains the
second nibble. -/
theorem eq_of_recordOf_eq_of_not_shift (hshift : isShiftOp (opId i) = false) (h : recordOf c raw i = recordOf c raw i') :
    i = i' := by
  have hshift' : isShiftOp (opId i') = false := opId_eq_of_recordOf_eq h ▸ hshift
  rw [recordOf_eq_of_not_shift hshift c { shiftRetainY := true },
    recordOf_eq_of_not_shift hshift' c { shiftRetainY := true }] at h
  rw [← instrOfRecord_recordOf_retain raw i, h, instrOfRecord_recordOf_retain]

end

/-- The ids 17 and 19 are those of SHR and SHL alone (10_state R30). -/
theorem shift_cases {i : Instr} (h : isShiftOp (opId i) = true) :
    (∃ x y, i = .singleRegisterShr x y) ∨ ∃ x y, i = .singleRegisterShl x y := by
  cases i with
  | singleRegisterShr x y => exact .inl ⟨x, y, rfl⟩
  | singleRegisterShl x y => exact .inr ⟨x, y, rfl⟩
  | _ => cases h

/-- Settles O43: two different opcodes have different instructions, so the equal records are those of two shifts, which keep
the tag and `x`. -/
theorem onlyTheDiscardedNibbleIsLost : Obligations.OnlyTheDiscardedNibbleIsLost := by
  intro o o' i i' raw hdecode hdecode' hne h
  obtain rfl : encode i = o := encode_of_decode hdecode
  obtain rfl : encode i' = o' := encode_of_decode hdecode'
  cases hshift : isShiftOp (opId i) with
  | false => exact absurd (congrArg encode (eq_of_recordOf_eq_of_not_shift hshift h)) hne
  | true =>
    have hshift' : isShiftOp (opId i') = true := opId_eq_of_recordOf_eq h ▸ hshift
    obtain ⟨x, y, rfl⟩ | ⟨x, y, rfl⟩ := shift_cases hshift <;>
      obtain ⟨x', y', rfl⟩ | ⟨x', y', rfl⟩ := shift_cases hshift'
    case inl.inl | inr.inr =>
      cases h
      simp [encode]
    case inl.inr | inr.inl => cases h

end Sys2Proof.Machine

namespace Sys2Proof.Machine

/-! ## A scan, two bytes at a time (49_instruction_validator R186; 70_reset_and_hazards R219) -/

/-- Every two bytes are an opcode, and an odd last byte is none (log entry 9). -/
theorem opcodesOf_length : ∀ bytes : List Byte, (opcodesOf bytes).length = bytes.length / 2
  | [] => rfl
  | [_] => by simp [opcodesOf]
  | _ :: _ :: rest => by
    simp only [opcodesOf, List.length_cons, opcodesOf_length rest]
    omega

/-- An even-length string ends between two opcodes, so what follows it is assembled as if it stood alone. -/
theorem opcodesOf_append (b : List Byte) :
    ∀ {a : List Byte}, a.length % 2 = 0 → opcodesOf (a ++ b) = opcodesOf a ++ opcodesOf b
  | [], _ => rfl
  | _ :: _ :: rest, h => by
    have hrest : rest.length % 2 = 0 := by
      simp only [List.length_cons] at h
      omega
    simp only [List.cons_append, opcodesOf, opcodesOf_append b hrest]

/-- Settles O45: a scan maps the decoder over the successive opcodes. -/
theorem scanTakesTwoBytesPerResult : Obligations.ScanTakesTwoBytesPerResult := by
  constructor
  · intro c bytes
    rw [scan, List.length_map, opcodesOf_length]
  · intro c a b h
    rw [scan, opcodesOf_append b h, List.map_append, scan, scan]

end Sys2Proof.Machine

namespace Sys2Proof.Machine

/-! ## Every evaluation completes, at an illegal opcode with the failure (60_exceptions, 70_reset_and_hazards) -/

theorem takeDecodeFailure_eq_showsFailure (s : State) : takeDecodeFailure s = showsFailure s := by
  rw [takeDecodeFailure_eq, ← hex4_toPort]
  rfl

/-- An instruction shows `valid_o = 1`, the failure 0. -/
theorem exec_ne_showsFailure (i : Instr) (s : State) : exec i s ≠ showsFailure s := by
  rw [exec_eq]
  intro h
  injection h with hstate
  have hvalid := congrArg (fun t : State => t.out.valid_o) hstate
  simp at hvalid

/-- Settles O12: a step at an illegal opcode takes the failure, and at a legal one runs an instruction, which never shows it. -/
theorem decodeFailureDrivesZerosAndRaw : Obligations.DecodeFailureDrivesZerosAndRaw := by
  intro s
  obtain ⟨hok, herror⟩ := stepRunsTheDecodedInstruction s
  exact ⟨takeDecodeFailure_eq_showsFailure s, fun f h => (herror f h).trans (takeDecodeFailure_eq_showsFailure s),
    fun i h => (hok i h).symm ▸ exec_ne_showsFailure i s⟩

/-- Settles O23: a step settles the outputs and touches nothing else. -/
theorem everyStepCompletesAndChangesOnlyTheOutputs : Obligations.EveryStepCompletesAndChangesOnlyTheOutputs := by
  intro s
  exact ⟨settle s, step_eq s, settle_config s, settle_opcode_i s⟩

end Sys2Proof.Machine
